-- ==== Sys2Proof/Word.lean ====
section
/-! DEFINITION. The word types: the byte of the input stream and of a payload cell (00_scope R9), and the step word
(30_encoding R78). -/

namespace Sys2Proof

/-- A byte, bit 0 the least significant (00_scope R9, R11). -/
abbrev Byte := BitVec 8

/-- The step word, 13 bits: rst, in_valid, state[2:0], in_byte[7:0], rst the most significant (30_encoding R78). -/
abbrev StepWord := BitVec 13

end Sys2Proof
end

