-- ==== Sys2Proof/Config.lean ====
section
/-! DEFINITION. What the build of the block fixes (00_scope R7, R8, R10): the parameter MAX_PAYLOAD, with its bounds and this
hardware's value, and the two markers; and the one free value the spec leaves open. -/

namespace Sys2Proof.Config

/-- The parameter of a build (00_scope R7, R10): MAX_PAYLOAD, the capacity of the payload buffer and the largest accepted length,
with the bounds the rule gives it, so that a value outside them is no build (93 U7). -/
structure Params where
  maxPayload : Nat
  one_le : 1 ≤ maxPayload
  le_255 : maxPayload ≤ 255
  deriving DecidableEq, Repr

/-- This hardware's build: MAX_PAYLOAD is 10 (00_scope R7, decision D1). The definitions that depend on the parameter take it as
their last argument, and this build is what they take where none is given. Log entry 1. -/
def hardware : Params := { maxPayload := 10, one_le := by decide, le_255 := by decide }

/-- START_MARKER, no parameter (00_scope R8). -/
def startMarker : Byte := 0x02#8

/-- END_MARKER, no parameter (00_scope R8). -/
def endMarker : Byte := 0x03#8

/-- FREE VALUE: what payload cell i holds while nothing has written it (10_state R33, 93 U4: "an arbitrary byte", not zero).
It has no body, so nothing can be proved of it. Log entry 2. -/
opaque powerUpByte : Nat → Byte

end Sys2Proof.Config
end

