-- ==== Sys2Proof/Syntax.lean ====
section
/-! DEFINITION. The instructions: one constructor per row of spec/opcode_table.json, the steps of the block (00_scope R3, R17;
30_encoding R80). The spec's own list of operands is kept: INIT, IDLE and RSVD.STATE have none (46 R160 to R162), and a row
whose byte is fixed by its pattern has none. -/

namespace Sys2Proof

/-- A step of the block: a row of the transition map (30_encoding R80). -/
inductive Instr where
  /-- INIT, the Initialize operation (46 R160). -/
  | init
  /-- IDLE, a clock cycle with no byte offered (46 R161). -/
  | idle
  /-- AS.START, the start marker in AwaitStart (41 R110). -/
  | asStart
  /-- AS.SKIP, a garbage byte in AwaitStart (41 R111). -/
  | asSkip (b : Byte)
  /-- AL.OVER, an oversized length byte (42 R121). -/
  | alOver (l : Byte)
  /-- AL.ZERO, the length byte 0 (42 R122). -/
  | alZero
  /-- AL.LEN, a legal non-zero length byte (42 R123). -/
  | alLen (l : Byte)
  /-- AP.MORE, a payload byte that is not the last (43 R131). -/
  | apMore (b : Byte)
  /-- AP.LAST, the last payload byte (43 R132). -/
  | apLast (b : Byte)
  /-- AC.CHK, the checksum byte (44 R140). -/
  | acChk (c : Byte)
  /-- AE.OK, the end marker with equal checksums (45 R151). -/
  | aeOk
  /-- AE.BADCHK, the end marker with unequal checksums (45 R152). -/
  | aeBadchk
  /-- AE.BADEND, another byte in the END position (45 R153). -/
  | aeBadend (b : Byte)
  /-- RSVD.STATE with the unused state pattern 5 (46 R162). -/
  | rsvdState5
  /-- RSVD.STATE with the unused state patterns 6 and 7 (46 R162). -/
  | rsvdState67
  deriving DecidableEq, Repr

/-- Rows 3 to 14 of the map are CONSUME steps; INIT and IDLE are not (00_scope R17). -/
def Instr.isConsume : Instr → Bool
  | .init => false
  | .idle => false
  | .asStart => true
  | .asSkip _ => true
  | .alOver _ => true
  | .alZero => true
  | .alLen _ => true
  | .apMore _ => true
  | .apLast _ => true
  | .acChk _ => true
  | .aeOk => true
  | .aeBadchk => true
  | .aeBadend _ => true
  | .rsvdState5 => true
  | .rsvdState67 => true

end Sys2Proof
end

