-- ==== Sys2Proof/WellFormed.lean ====
section
/-! DEFINITION. Which operands each row's pattern and byte guard admit (30_encoding R80, the guards on `in_byte`). -/

namespace Sys2Proof

/-- An instruction is well-formed when its operand byte is one its row admits (30_encoding R80 rows 4, 5, 7 and 13; the
comparisons are unsigned, 40 R106). -/
def Instr.wellFormed (i : Instr) (c : Config.Params := Config.hardware) : Bool :=
  match i with
  | .init => true
  | .idle => true
  | .asStart => true
  | .asSkip b => b != Config.startMarker
  | .alOver l => decide (c.maxPayload < l.toNat)
  | .alZero => true
  | .alLen l => decide (1 ≤ l.toNat) && decide (l.toNat ≤ c.maxPayload)
  | .apMore _ => true
  | .apLast _ => true
  | .acChk _ => true
  | .aeOk => true
  | .aeBadchk => true
  | .aeBadend b => b != Config.endMarker
  | .rsvdState5 => true
  | .rsvdState67 => true

end Sys2Proof
end

