-- ==== Sys2Proof/Decode.lean ====
section
/-! DEFINITION. The transition map (30_encoding R78 to R81): from the step word and the two register comparisons the guards
read to the instruction; the map's rows as the spec prints them; and the encoder. -/

namespace Sys2Proof

/-! ## The fields of the step word (30_encoding R78) -/

/-- sw[12]. -/
def StepWord.rst (sw : StepWord) : Bool := sw.getLsbD 12

/-- sw[11]. -/
def StepWord.inValid (sw : StepWord) : Bool := sw.getLsbD 11

/-- sw[10:8]. -/
def StepWord.stateBits (sw : StepWord) : BitVec 3 := sw.extractLsb' 8 3

/-- sw[7:0]. -/
def StepWord.inByte (sw : StepWord) : Byte := sw.extractLsb' 0 8

/-- The step word with the given fields (30_encoding R78). -/
def StepWord.pack (rst inValid : Bool) (state : BitVec 3) (inByte : Byte) : StepWord :=
  BitVec.ofBool rst ++ BitVec.ofBool inValid ++ state ++ inByte

/-! ## Decoding -/

/-- What the map's guards read of the registers (30_encoding R80 rows 8, 9, 11 and 12). -/
structure Guards where
  /-- received_count + 1 == declared_length. -/
  lastByte : Bool
  /-- computed_checksum == received_checksum. -/
  checksumOk : Bool
  deriving DecidableEq, Repr

/-- Rows 3 and 4: the byte in AwaitStart. -/
def decodeAwaitStart (b : Byte) : Instr :=
  if b = Config.startMarker then .asStart else .asSkip b

/-- Rows 5, 6 and 7: the byte in AwaitLength, unsigned (40 R106). -/
def decodeAwaitLength (b : Byte) (c : Config.Params := Config.hardware) : Instr :=
  if c.maxPayload < b.toNat then .alOver b
  else if b = 0 then .alZero
  else .alLen b

/-- Rows 8 and 9: the byte in AccumulatingPayload. -/
def decodeAccumulatingPayload (b : Byte) (g : Guards) : Instr :=
  if g.lastByte then .apLast b else .apMore b

/-- Rows 11, 12 and 13: the byte in AwaitEnd; a byte that is no end marker is AE.BADEND whatever the checksums (45 R150). -/
def decodeAwaitEnd (b : Byte) (g : Guards) : Instr :=
  if b = Config.endMarker then (if g.checksumOk then .aeOk else .aeBadchk) else .aeBadend b

/-- The instruction a step word and the guards select (30_encoding R80). Every word selects one (R81; the unused state patterns
select RSVD.STATE, 46 R162). -/
def decode (sw : StepWord) (g : Guards) (c : Config.Params := Config.hardware) : Instr :=
  if StepWord.rst sw then .init
  else if StepWord.inValid sw = false then .idle
  else if StepWord.stateBits sw = 0 then decodeAwaitStart (StepWord.inByte sw)
  else if StepWord.stateBits sw = 1 then decodeAwaitLength (StepWord.inByte sw) c
  else if StepWord.stateBits sw = 2 then decodeAccumulatingPayload (StepWord.inByte sw) g
  else if StepWord.stateBits sw = 3 then .acChk (StepWord.inByte sw)
  else if StepWord.stateBits sw = 4 then decodeAwaitEnd (StepWord.inByte sw) g
  else if StepWord.stateBits sw = 5 then .rsvdState5
  else .rsvdState67

/-- Why a number is no step word. -/
inductive DecodeError where
  /-- It has a bit above bit 12, and the step word has 13 bits (30_encoding R78). Safe: nothing of the block forms it. -/
  | widerThanStepWord
  deriving DecidableEq, Repr

/-- Decoding of a number read as a step word; total, and a number of more than 13 bits is rejected by name. -/
def decodeNat (w : Nat) (g : Guards) (c : Config.Params := Config.hardware) :
    Except DecodeError Instr :=
  if w < 8192 then .ok (decode (BitVec.ofNat 13 w) g c) else .error .widerThanStepWord

/-- The guards of the machine right after reset: received_count + 1 is 1 and declared_length 0, both checksums 0 (10_state
R33). A step word alone does not tell AP.MORE from AP.LAST, nor AE.OK from AE.BADCHK (30_encoding R80: one pattern, two guards);
these guards settle it for `decodeTableWord`. Log entry 8. -/
def resetGuards : Guards := { lastByte := false, checksumOk := true }

/-- The instruction of a step word given as the opcode table numbers its bits (bit 0 the least significant), read with the
guards of this hardware right after reset. The step word is no stored word and has no byte order (30_encoding R78). -/
def decodeTableWord (nbits w : Nat) : Option Instr :=
  match decodeNat (w % 2 ^ nbits) resetGuards with
  | .ok i => some i
  | .error _ => none

/-! ## The map's rows as printed (30_encoding R80) -/

/-- One row of the map: it applies when `sw &&& mask = pattern` and the guard holds. -/
structure Row where
  mnemonic : String
  pattern : StepWord
  mask : StepWord
  guard : Byte → Guards → Bool

/-- The row of each instruction, its numbers and guard as the map of R80 prints them. -/
def Instr.row (i : Instr) (c : Config.Params := Config.hardware) : Row :=
  match i with
  | .init => ⟨"INIT", 0x1000#13, 0x1000#13, fun _ _ => true⟩
  | .idle => ⟨"IDLE", 0x0000#13, 0x1800#13, fun _ _ => true⟩
  | .asStart => ⟨"AS.START", 0x0802#13, 0x1FFF#13, fun _ _ => true⟩
  | .asSkip _ => ⟨"AS.SKIP", 0x0800#13, 0x1F00#13, fun b _ => b != 0x02#8⟩
  | .alOver _ => ⟨"AL.OVER", 0x0900#13, 0x1F00#13, fun b _ => decide (c.maxPayload < b.toNat)⟩
  | .alZero => ⟨"AL.ZERO", 0x0900#13, 0x1FFF#13, fun _ _ => true⟩
  | .alLen _ => ⟨"AL.LEN", 0x0900#13, 0x1F00#13, fun b _ => decide (1 ≤ b.toNat ∧ b.toNat ≤ c.maxPayload)⟩
  | .apMore _ => ⟨"AP.MORE", 0x0A00#13, 0x1F00#13, fun _ g => !g.lastByte⟩
  | .apLast _ => ⟨"AP.LAST", 0x0A00#13, 0x1F00#13, fun _ g => g.lastByte⟩
  | .acChk _ => ⟨"AC.CHK", 0x0B00#13, 0x1F00#13, fun _ _ => true⟩
  | .aeOk => ⟨"AE.OK", 0x0C03#13, 0x1FFF#13, fun _ g => g.checksumOk⟩
  | .aeBadchk => ⟨"AE.BADCHK", 0x0C03#13, 0x1FFF#13, fun _ g => !g.checksumOk⟩
  | .aeBadend _ => ⟨"AE.BADEND", 0x0C00#13, 0x1F00#13, fun b _ => b != 0x03#8⟩
  | .rsvdState5 => ⟨"RSVD.STATE", 0x0D00#13, 0x1F00#13, fun _ _ => true⟩
  | .rsvdState67 => ⟨"RSVD.STATE", 0x0E00#13, 0x1E00#13, fun _ _ => true⟩

/-- The rows of the map, in the table's order (RSVD.STATE has two patterns, hence two rows). -/
def rows (c : Config.Params := Config.hardware) : List Row :=
  [Instr.init.row c, Instr.idle.row c, Instr.asStart.row c, (Instr.asSkip 0).row c, (Instr.alOver 0).row c,
    Instr.alZero.row c, (Instr.alLen 0).row c, (Instr.apMore 0).row c, (Instr.apLast 0).row c, (Instr.acChk 0).row c,
    Instr.aeOk.row c, Instr.aeBadchk.row c, (Instr.aeBadend 0).row c, Instr.rsvdState5.row c, Instr.rsvdState67.row c]

/-- A row applies when `(sw & mask) == match` and its guard holds (30_encoding R80). -/
def Row.applies (r : Row) (sw : StepWord) (g : Guards) : Bool :=
  decide (sw &&& r.mask = r.pattern) && r.guard (StepWord.inByte sw) g

/-- Whether the register guards let the row be selected (30_encoding R80 rows 8, 9, 11 and 12). -/
def Instr.admits : Instr → Guards → Bool
  | .init, _ => true
  | .idle, _ => true
  | .asStart, _ => true
  | .asSkip _, _ => true
  | .alOver _, _ => true
  | .alZero, _ => true
  | .alLen _, _ => true
  | .apMore _, g => !g.lastByte
  | .apLast _, g => g.lastByte
  | .acChk _, _ => true
  | .aeOk, g => g.checksumOk
  | .aeBadchk, g => !g.checksumOk
  | .aeBadend _, _ => true
  | .rsvdState5, _ => true
  | .rsvdState67, _ => true

/-! ## Encoding -/

/-- The step word of an instruction (30_encoding R78 to R80), its don't-care bits 0. -/
def encode : Instr → StepWord
  | .init => StepWord.pack true false 0 0
  | .idle => StepWord.pack false false 0 0
  | .asStart => StepWord.pack false true 0 Config.startMarker
  | .asSkip b => StepWord.pack false true 0 b
  | .alOver l => StepWord.pack false true 1 l
  | .alZero => StepWord.pack false true 1 0
  | .alLen l => StepWord.pack false true 1 l
  | .apMore b => StepWord.pack false true 2 b
  | .apLast b => StepWord.pack false true 2 b
  | .acChk c => StepWord.pack false true 3 c
  | .aeOk => StepWord.pack false true 4 Config.endMarker
  | .aeBadchk => StepWord.pack false true 4 Config.endMarker
  | .aeBadend b => StepWord.pack false true 4 b
  | .rsvdState5 => StepWord.pack false true 5 0
  | .rsvdState67 => StepWord.pack false true 6 0

end Sys2Proof
end

