-- ==== Sys2Proof/Machine/State.lean ====
section
/-! DEFINITION. The state of the machine as plain data, the reasons a step can stop, and the state after reset. The spec's six
items (10_state R20) come first; then the model's own fields: whether INIT has been performed, the host's inputs to come, and
the record of what the host was told. -/

namespace Sys2Proof.Machine

/-- The contents of the 3-bit `state` register: the five phases (10_state R21) and the three unused patterns, which only a
power-up before the first INIT can show (46 R162). -/
inductive Phase where
  | awaitStart
  | awaitLength
  | accumulatingPayload
  | awaitChecksum
  | awaitEnd
  | unused5
  | unused6
  | unused7
  deriving DecidableEq, Repr

/-- The values of the input ports in one clock cycle (10_state R31). -/
structure Cycle where
  rst : Bool
  inValid : Bool
  inByte : Byte
  deriving DecidableEq, Repr

/-- What one CONSUME step reports (70 R211): NoFrame, or FrameReady with the payload view taken at that step. -/
inductive Observation where
  | noFrame
  | frameReady (view : List Byte)
  deriving DecidableEq, Repr

/-- The payload buffer (20_memory R50): the cells that something has written, by rising index. A cell that is not listed has
not been written since power-up. -/
abbrev Memory := List Host.Cell

/-- The state. Every field up to `receivedChecksum` is an item of 10_state R20; the last three are the model's own. -/
structure State where
  /-- `state`, the phase register (10_state R21). -/
  state : Phase
  /-- `payload`, the accumulation buffer (10_state R22). -/
  payload : Memory
  /-- `declared_length` (10_state R23). -/
  declaredLength : BitVec 8
  /-- `received_count` (10_state R24). -/
  receivedCount : BitVec 8
  /-- `computed_checksum` (10_state R25). -/
  computedChecksum : Byte
  /-- `received_checksum` (10_state R26). -/
  receivedChecksum : Byte
  /-- The model's own: INIT has been performed since power-up (70 R201). Log entry 4. -/
  initDone : Bool
  /-- The model's own: the host's inputs in the coming cycles, the next one first (10_state R31, R34). Log entry 5. -/
  inputs : List Cycle
  /-- The model's own: the observation of the run so far, the newest result first (70 R211); no step reads it. Log entry 6. -/
  observed : List Observation
  deriving DecidableEq, Repr

/-- Why a step stops with a fault. -/
inductive Fault where
  /-- CONSUME with an unused `state` pattern (46 R162, 93 U2: "a bit-level model ... must fault"). Raised by the meanings of
  RSVD.STATE. Safe: the spec gives no behaviour, and no run after INIT gets there. -/
  | reservedState
  /-- A store at an index outside the payload buffer (20_memory R53: "must fault, not wrap or drop the write"). Raised by the
  store of AP.MORE and AP.LAST. Safe: no run after INIT gets there. -/
  | payloadIndexOutOfRange
  /-- A CONSUME from a state that violates the invariants of 10_state R30 in another way (93 U1, D15). Raised by the meanings of
  rows 3 to 13. Safe: no run after INIT gets there. -/
  | invariantViolated
  deriving DecidableEq, Repr

/-- Why a step is refused. -/
inductive Refusal where
  /-- An instruction without a meaning in this model; raised by exec's arm for it. Safe. -/
  | notModelled (mnemonic : String)
  /-- A CONSUME before the first INIT, which has no meaning (70 R201, R207, 93 U3: "refuse"). Raised by the meanings of rows 3
  to 13. Safe: the host never does it. -/
  | consumeBeforeInit
  /-- A meaning called in a state, or with an operand, for which the map of 30_encoding R80 does not select its row. Raised by the
  meanings of rows 3 to 13 when called directly; `step` never raises it. Safe. -/
  | rowNotSelected
  deriving DecidableEq, Repr

/-- The state right after INIT (10_state R33). No payload cell is listed: what the cells hold is left open (log entry 2). The
host's inputs and the record are empty (log entries 5 and 6). -/
def State.reset : State :=
  { state := .awaitStart
    payload := []
    declaredLength := 0
    receivedCount := 0
    computedChecksum := 0
    receivedChecksum := 0
    initDone := true
    inputs := []
    observed := [] }

end Sys2Proof.Machine
end

