-- ==== Sys2Proof/Machine/Ops.lean ====
section
/-! DEFINITION. The named operations over the payload buffer, the registers and the host's side, and the shared effects of the
transitions: begin an attempt, append a payload byte, reject, report. -/

namespace Sys2Proof.Machine

/-! ## The payload buffer (20_memory R50 to R56) -/

/-- The byte last written at index a; none when nothing has written that cell (10_state R33). Log entry 2. -/
def Memory.read : Memory → Nat → Option Byte
  | [], _ => none
  | (x, y) :: m, a => if x = a then some y else Memory.read m a

/-- The buffer with byte b at index a; the list keeps its order. -/
def Memory.write : Memory → Nat → Byte → Memory
  | [], a, b => [(a, b)]
  | (x, y) :: m, a, b =>
    if a < x then (a, b) :: (x, y) :: m
    else if x = a then (a, b) :: m
    else (x, y) :: Memory.write m a b

/-- The canonical form: indices strictly rising, each inside the buffer (20_memory R50). An unlisted cell reads as no value, so
no entry can equal what an unlisted cell reads as. -/
abbrev Memory.wf (m : Memory) (c : Config.Params := Config.hardware) : Prop :=
  m.Pairwise (fun x y => x.1 < y.1) ∧ ∀ x ∈ m, x.1 < c.maxPayload

/-- The byte payload cell i holds: what was last written there, and before that an arbitrary byte (10_state R33, 93 U4). -/
def State.payloadByte (s : State) (i : Nat) : Byte := (Memory.read s.payload i).getD (Config.powerUpByte i)

/-- The payload view `payload[0 .. received_count)` (20_memory R63). -/
def State.payloadView (s : State) : List Byte := (List.range s.receivedCount.toNat).map s.payloadByte

/-! ## Writing one item of the state -/

/-- `state <- p` (00_scope R15). -/
def State.goto (s : State) (p : Phase) : State := { s with state := p }

/-- `payload` replaced. -/
def State.setPayload (s : State) (m : Memory) : State := { s with payload := m }

/-- `declared_length <- v`. -/
def State.setDeclaredLength (s : State) (v : BitVec 8) : State := { s with declaredLength := v }

/-- `received_count <- v`. -/
def State.setReceivedCount (s : State) (v : BitVec 8) : State := { s with receivedCount := v }

/-- `computed_checksum <- v`. -/
def State.setComputedChecksum (s : State) (v : Byte) : State := { s with computedChecksum := v }

/-- `received_checksum <- v`. -/
def State.setReceivedChecksum (s : State) (v : Byte) : State := { s with receivedChecksum := v }

/-- The model's mark that INIT has been performed (70 R201). -/
def State.setInitDone (s : State) (v : Bool) : State := { s with initDone := v }

/-- The host's coming inputs replaced. -/
def State.setInputs (s : State) (cs : List Cycle) : State := { s with inputs := cs }

/-- One more result in the host's record (70 R211). -/
def State.record (s : State) (o : Observation) : State := { s with observed := o :: s.observed }

/-! ## Shared effects of the transitions -/

/-- The outcome of a step of this machine. -/
abbrev Result := Host.Outcome State Fault Refusal

/-- `MemWrite(i, 1, v)` (00_scope R14): one cell, one byte; an index outside the buffer faults (20_memory R53). -/
def Ops.memWrite (s : State) (i : Nat) (v : Byte) (c : Config.Params := Config.hardware) : Result :=
  if i < c.maxPayload then .next (s.setPayload (Memory.write s.payload i v)) else .fault .payloadIndexOutOfRange

/-- Initialize: AwaitStart and the four registers 0; no payload cell is written (46 R160). -/
def Ops.initialize (s : State) : State :=
  (((((s.goto .awaitStart).setDeclaredLength 0).setReceivedCount 0).setComputedChecksum 0).setReceivedChecksum 0).setInitDone true

/-- The start marker's logical reset: three registers 0; `received_checksum` and the cells keep their values (41 R110). -/
def Ops.beginAttempt (s : State) : State :=
  (((s.setDeclaredLength 0).setReceivedCount 0).setComputedChecksum 0).goto .awaitLength

/-- The result NoFrame (00_scope R15). -/
def Ops.noFrame (s : State) : State := s.record .noFrame

/-- `emit <- true`: the result FrameReady with the payload view (20_memory R63, 45 R151). -/
def Ops.emitFrame (s : State) : State := s.record (.frameReady s.payloadView)

/-- A rejection: `state <- AwaitStart` and nothing else written, result NoFrame (00_scope R15, 60 R176). This is the block's
whole error handling; there is no saved state and no return (60 R178): the next START byte begins a new attempt. -/
def Ops.reject (s : State) : State := Ops.noFrame (s.goto .awaitStart)

end Sys2Proof.Machine
end

