-- ==== Sys2Proof/Machine/Operands.lean ====
section
/-! DEFINITION. Operands: the codes of the phases in the step word, the coming cycle's input, the store address of a payload
byte, and the XOR of a byte sequence. -/

namespace Sys2Proof.Machine

/-- The phase's code in `sw[10:8]` (30_encoding R79). -/
def Phase.code : Phase → BitVec 3
  | .awaitStart => 0
  | .awaitLength => 1
  | .accumulatingPayload => 2
  | .awaitChecksum => 3
  | .awaitEnd => 4
  | .unused5 => 5
  | .unused6 => 6
  | .unused7 => 7

/-- The phase with a given code (30_encoding R79). -/
def Phase.ofCode (c : BitVec 3) : Phase :=
  if c = 0 then .awaitStart
  else if c = 1 then .awaitLength
  else if c = 2 then .accumulatingPayload
  else if c = 3 then .awaitChecksum
  else if c = 4 then .awaitEnd
  else if c = 5 then .unused5
  else if c = 6 then .unused6
  else .unused7

/-- One of the five named phases, codes 0 to 4 (10_state R21, R30 I7). -/
def Phase.named : Phase → Bool
  | .awaitStart => true
  | .awaitLength => true
  | .accumulatingPayload => true
  | .awaitChecksum => true
  | .awaitEnd => true
  | .unused5 => false
  | .unused6 => false
  | .unused7 => false

/-- A cycle in which the host offers byte b (10_state R31). -/
def Cycle.ofByte (b : Byte) : Cycle := { rst := false, inValid := true, inByte := b }

/-- A cycle in which the host offers nothing; `in_byte` is ignored in it (46 R161). -/
def Cycle.idle : Cycle := { rst := false, inValid := false, inByte := 0 }

/-- The inputs of the cycle the next step takes; a host whose inputs have run out has stopped offering bytes (46 R161 (b),
70 R208). Log entry 5. -/
def State.nextCycle (s : State) : Cycle := s.inputs.headD Cycle.idle

/-- The state once that cycle's inputs are used up (20_memory R61). -/
def State.takeCycle (s : State) : State := s.setInputs s.inputs.tail

/-- The effective address of a payload store: `received_count`, no base, offset or scaling (43 R130). -/
def State.storeAddress (s : State) : Nat := s.receivedCount.toNat

/-- `XOR(s)`, the exclusive-or of a byte sequence, 0x00 for the empty one (00_scope R16). -/
def xorBytes : List Byte → Byte
  | [] => 0
  | b :: bs => b ^^^ xorBytes bs

end Sys2Proof.Machine
end

