-- ==== Sys2Proof/Machine/Flags.lean ====
section
/-! DEFINITION. The comparisons of registers the transition map's guards read. The block stores no flag (10_state R27). -/

namespace Sys2Proof.Machine

/-- `received_count + 1 == declared_length`, an integer addition and an unsigned comparison (00_scope R16, 40 R105, R106). -/
def Flags.lastByte (s : State) : Bool := decide (s.receivedCount.toNat + 1 = s.declaredLength.toNat)

/-- `computed_checksum == received_checksum` (40 R106). -/
def Flags.checksumOk (s : State) : Bool := decide (s.computedChecksum = s.receivedChecksum)

/-- Both comparisons, as the map reads them (30_encoding R80). -/
def State.guards (s : State) : Guards := { lastByte := Flags.lastByte s, checksumOk := Flags.checksumOk s }

end Sys2Proof.Machine
end

