-- ==== Sys2Proof/Machine/Invariants.lean ====
section
/-! DEFINITION. The invariants of reachable states (10_state R30), and the common frame of the eleven consume transitions: a
CONSUME has a meaning only after INIT (70 R201), in the row the map selects (30_encoding R80), from a state that satisfies those
invariants (40 R100, 93 U1). -/

namespace Sys2Proof.Machine

/-- I1: 0 <= received_count <= declared_length <= MAX_PAYLOAD. -/
abbrev State.I1 (s : State) (c : Config.Params := Config.hardware) : Prop :=
  s.receivedCount.toNat ≤ s.declaredLength.toNat ∧ s.declaredLength.toNat ≤ c.maxPayload

/-- I2: computed_checksum == XOR(payload[0 .. received_count)). -/
abbrev State.I2 (s : State) : Prop := s.computedChecksum = xorBytes s.payloadView

/-- I3: in AwaitLength the three registers AS.START clears are 0. -/
abbrev State.I3 (s : State) : Prop :=
  s.state = .awaitLength → s.declaredLength = 0 ∧ s.receivedCount = 0 ∧ s.computedChecksum = 0

/-- I4: in AccumulatingPayload there is a byte still to come. -/
abbrev State.I4 (s : State) : Prop :=
  s.state = .accumulatingPayload → 1 ≤ s.declaredLength.toNat ∧ s.receivedCount.toNat < s.declaredLength.toNat

/-- I5: in AwaitChecksum the payload is complete. -/
abbrev State.I5 (s : State) : Prop := s.state = .awaitChecksum → s.receivedCount = s.declaredLength

/-- I6: in AwaitEnd the payload is complete. -/
abbrev State.I6 (s : State) : Prop := s.state = .awaitEnd → s.receivedCount = s.declaredLength

/-- I7: the phase is one of the five named ones. -/
abbrev State.I7 (s : State) : Prop := s.state.named = true

/-- The invariants I1 to I7 together (10_state R30). -/
abbrev State.Legal (s : State) (c : Config.Params := Config.hardware) : Prop :=
  s.I1 c ∧ s.I2 ∧ s.I3 ∧ s.I4 ∧ s.I5 ∧ s.I6 ∧ s.I7

/-- The fault of a CONSUME from a state outside the invariants (93 U1: "fault"); a payload store whose index lies outside the
buffer is named apart (20_memory R53). Log entry 3. -/
def Ops.unspecifiedState (s : State) (c : Config.Params := Config.hardware) : Option Fault :=
  if s.state = .accumulatingPayload ∧ c.maxPayload ≤ s.storeAddress then some .payloadIndexOutOfRange
  else if s.Legal c then none
  else some .invariantViolated

/-- The frame of the consume transitions: `selected` says that the map selects this row here, and `effect` is the row's own
effect. Log entries 3, 4 and 7. -/
def Ops.consumeRow (selected : Bool) (s : State) (effect : State → Result) (c : Config.Params := Config.hardware) : Result :=
  if s.initDone = false then .refused .consumeBeforeInit
  else if selected = false then .refused .rowNotSelected
  else match Ops.unspecifiedState s c with
    | some f => .fault f
    | none => effect s

end Sys2Proof.Machine
end

