-- ==== Sys2Proof/Machine/AccumulatingPayload.lean ====
section
/-! DEFINITION. The transitions of phase AccumulatingPayload (43_accumulating_payload). -/

namespace Sys2Proof.Machine

/-- The append: the byte goes to the cell the old count names, the running XOR takes it in, the count goes up by 1 (43 R130),
and the phase becomes p. -/
def Ops.append (b : Byte) (p : Phase) (s : State) (c : Config.Params := Config.hardware) : Result :=
  match Ops.memWrite s s.storeAddress b c with
  | .next t =>
    .next (Ops.noFrame (((t.setComputedChecksum (s.computedChecksum ^^^ b)).setReceivedCount (s.receivedCount + 1)).goto p))
  | .fault f => .fault f
  | .refused r => .refused r

/-- AP.MORE: append; more payload bytes to come (43 R131). -/
def execApMore (b : Byte) (s : State) (c : Config.Params := Config.hardware) : Result :=
  Ops.consumeRow (s.state == .accumulatingPayload && (Instr.apMore b).admits s.guards) s
    (fun s => Ops.append b .accumulatingPayload s c) c

/-- AP.LAST: append; the payload is complete (43 R132). -/
def execApLast (b : Byte) (s : State) (c : Config.Params := Config.hardware) : Result :=
  Ops.consumeRow (s.state == .accumulatingPayload && (Instr.apLast b).admits s.guards) s
    (fun s => Ops.append b .awaitChecksum s c) c

end Sys2Proof.Machine
end

