-- ==== Sys2Proof/Machine/AwaitChecksum.lean ====
section
/-! DEFINITION. The transition of phase AwaitChecksum (44_await_checksum). -/

namespace Sys2Proof.Machine

/-- AC.CHK: `received_checksum` is the byte; AwaitEnd; no validation yet (44 R140). -/
def execAcChk (b : Byte) (s : State) (c : Config.Params := Config.hardware) : Result :=
  Ops.consumeRow (s.state == .awaitChecksum) s
    (fun s => .next (Ops.noFrame ((s.setReceivedChecksum b).goto .awaitEnd))) c

end Sys2Proof.Machine
end

