-- ==== Sys2Proof/Machine/AwaitEnd.lean ====
section
/-! DEFINITION. The transitions of phase AwaitEnd, the checksum validator's verdict (45_await_end). -/

namespace Sys2Proof.Machine

/-- AE.OK: the one transition that reports FrameReady, with the payload view; AwaitStart (45 R151). -/
def execAeOk (s : State) (c : Config.Params := Config.hardware) : Result :=
  Ops.consumeRow (s.state == .awaitEnd && Instr.aeOk.admits s.guards) s
    (fun s => .next ((Ops.emitFrame s).goto .awaitStart)) c

/-- AE.BADCHK: reject, the checksums differ (45 R152). -/
def execAeBadchk (s : State) (c : Config.Params := Config.hardware) : Result :=
  Ops.consumeRow (s.state == .awaitEnd && Instr.aeBadchk.admits s.guards) s (fun s => .next (Ops.reject s)) c

/-- AE.BADEND: reject, the byte is no end marker, whatever the checksums (45 R153). -/
def execAeBadend (b : Byte) (s : State) (c : Config.Params := Config.hardware) : Result :=
  Ops.consumeRow (s.state == .awaitEnd && (Instr.aeBadend b).wellFormed c) s (fun s => .next (Ops.reject s)) c

end Sys2Proof.Machine
end

