-- ==== Sys2Proof/Machine/AwaitLength.lean ====
section
/-! DEFINITION. The transitions of phase AwaitLength (42_await_length). -/

namespace Sys2Proof.Machine

/-- AL.OVER: reject; `declared_length` is not written (42 R121). -/
def execAlOver (l : Byte) (s : State) (c : Config.Params := Config.hardware) : Result :=
  Ops.consumeRow (s.state == .awaitLength && (Instr.alOver l).wellFormed c) s (fun s => .next (Ops.reject s)) c

/-- AL.ZERO: `declared_length` is the length byte 0; AwaitChecksum (42 R122). -/
def execAlZero (s : State) (c : Config.Params := Config.hardware) : Result :=
  Ops.consumeRow (s.state == .awaitLength) s
    (fun s => .next (Ops.noFrame ((s.setDeclaredLength 0).goto .awaitChecksum))) c

/-- AL.LEN: `declared_length` is the length byte; AccumulatingPayload (42 R123). -/
def execAlLen (l : Byte) (s : State) (c : Config.Params := Config.hardware) : Result :=
  Ops.consumeRow (s.state == .awaitLength && (Instr.alLen l).wellFormed c) s
    (fun s => .next (Ops.noFrame ((s.setDeclaredLength l).goto .accumulatingPayload))) c

end Sys2Proof.Machine
end

