-- ==== Sys2Proof/Machine/AwaitStart.lean ====
section
/-! DEFINITION. The transitions of phase AwaitStart (41_await_start). -/

namespace Sys2Proof.Machine

/-- AS.START: three registers 0, AwaitLength; `received_checksum` and the cells are not written (41 R110). -/
def execAsStart (s : State) (c : Config.Params := Config.hardware) : Result :=
  Ops.consumeRow (s.state == .awaitStart) s (fun s => .next (Ops.noFrame (Ops.beginAttempt s))) c

/-- AS.SKIP: nothing is written; the byte is used up (41 R111). -/
def execAsSkip (b : Byte) (s : State) (c : Config.Params := Config.hardware) : Result :=
  Ops.consumeRow (s.state == .awaitStart && (Instr.asSkip b).wellFormed c) s (fun s => .next (Ops.noFrame s)) c

end Sys2Proof.Machine
end

