-- ==== Sys2Proof/Machine/InitIdle.lean ====
section
/-! DEFINITION. INIT, IDLE and RSVD.STATE (46_initialize_idle). -/

namespace Sys2Proof.Machine

/-- INIT, from any state, an unused phase pattern and a power-up before the first INIT among them (46 R160). -/
def execInit (s : State) : Result := .next (Ops.initialize s)

/-- IDLE: nothing is written, in any state (46 R161, R162). -/
def execIdle (s : State) : Result := .next s

/-- RSVD.STATE, pattern 5: no behaviour exists, the model faults (46 R162). -/
def execRsvdState5 (_ : State) : Result := .fault .reservedState

/-- RSVD.STATE, patterns 6 and 7: no behaviour exists, the model faults (46 R162). -/
def execRsvdState67 (_ : State) : Result := .fault .reservedState

end Sys2Proof.Machine
end

