-- ==== Sys2Proof/Machine/Dispatch.lean ====
section
/-! DEFINITION. One arm per row of the transition map (30_encoding R80). -/

namespace Sys2Proof.Machine

/-- The meaning of each instruction, in this hardware's build (Config.hardware). -/
def exec (i : Instr) (s : State) : Host.Outcome State Fault Refusal :=
  match i with
  | .init => Sys2Proof.Machine.execInit s
  | .idle => Sys2Proof.Machine.execIdle s
  | .asStart => Sys2Proof.Machine.execAsStart s
  | .asSkip b => Sys2Proof.Machine.execAsSkip b s
  | .alOver l => Sys2Proof.Machine.execAlOver l s
  | .alZero => Sys2Proof.Machine.execAlZero s
  | .alLen l => Sys2Proof.Machine.execAlLen l s
  | .apMore b => Sys2Proof.Machine.execApMore b s
  | .apLast b => Sys2Proof.Machine.execApLast b s
  | .acChk c => Sys2Proof.Machine.execAcChk c s
  | .aeOk => Sys2Proof.Machine.execAeOk s
  | .aeBadchk => Sys2Proof.Machine.execAeBadchk s
  | .aeBadend b => Sys2Proof.Machine.execAeBadend b s
  | .rsvdState5 => Sys2Proof.Machine.execRsvdState5 s
  | .rsvdState67 => Sys2Proof.Machine.execRsvdState67 s

end Sys2Proof.Machine
end

