-- ==== Sys2Proof/Machine/Fetch.lean ====
section
/-! DEFINITION. Fetching: the step word of the coming cycle (30_encoding R78) and the instruction the map selects for it; and the
placing of a given step word for the next step. -/

namespace Sys2Proof.Machine

/-- `sw = {rst, in_valid, state[2:0], in_byte[7:0]}`, formed from the state before the step and the cycle's inputs (30_encoding
R78). -/
def State.stepWord (s : State) : StepWord :=
  StepWord.pack s.nextCycle.rst s.nextCycle.inValid s.state.code s.nextCycle.inByte

/-- The instruction of the coming cycle: the row of the map that applies (30_encoding R80, 40 R101). -/
def State.fetch (s : State) (c : Config.Params := Config.hardware) : Instr :=
  decode s.stepWord s.guards c

/-- The registers a phase needs to be in before its first byte: all 0, with a declared length of 2 in AccumulatingPayload
(10_state R30 I1 to I6), so that the guards are `resetGuards`. -/
def Ops.phaseRegisters (s : State) : State :=
  (((s.setDeclaredLength (if s.state = .accumulatingPayload then 2 else 0)).setReceivedCount 0).setComputedChecksum
    0).setReceivedChecksum 0

/-- The state of this hardware in which the coming cycle's step word is sw: its inputs come first, and the phase register holds its state bits.
Where the registers do not fit that phase, or do not give the guards `decodeTableWord` reads with, they are set to ones that do.
INIT counts as performed. Log entry 8. -/
def Ops.placeWord (sw : StepWord) (s : State) : State :=
  let cy : Cycle := { rst := StepWord.rst sw, inValid := StepWord.inValid sw, inByte := StepWord.inByte sw }
  let t := (((s.setInputs (cy :: s.inputs)).goto (Phase.ofCode (StepWord.stateBits sw))).setInitDone true)
  if t.Legal ∧ t.guards = resetGuards then t else Ops.phaseRegisters t

end Sys2Proof.Machine
end

