-- ==== Sys2Proof/Machine/Step.lean ====
section
/-! DEFINITION. One step: one clock cycle (40_consume_dispatch R101). -/

namespace Sys2Proof.Machine

/-- One rising clock edge of this hardware: the coming cycle's inputs are used up and the instruction the map selects is executed. -/
def step (s : State) : Host.Outcome State Fault Refusal := exec s.fetch s.takeCycle

/-- s with the step word w, numbered as spec/opcode_table.json numbers its bits, as the word of its next step. A number that is no
step word leaves s as it is. Log entry 8. -/
def State.withFetchWord (s : State) (nbits w : Nat) : State :=
  if w % 2 ^ nbits < 8192 then Ops.placeWord (BitVec.ofNat 13 (w % 2 ^ nbits)) s else s

end Sys2Proof.Machine
end

