-- ==== Sys2Proof/Machine/Build.lean ====
section
/-! DEFINITION. The machine of any build of the block (00_scope R7, R10): the same meanings and the same step with MAX_PAYLOAD as
an argument. `exec` and `step` are those of this hardware's build. -/

namespace Sys2Proof.Machine

/-- The meaning of each instruction in build c. -/
def execAt (c : Config.Params) (i : Instr) (s : State) : Result :=
  match i with
  | .init => execInit s
  | .idle => execIdle s
  | .asStart => execAsStart s c
  | .asSkip b => execAsSkip b s c
  | .alOver l => execAlOver l s c
  | .alZero => execAlZero s c
  | .alLen l => execAlLen l s c
  | .apMore b => execApMore b s c
  | .apLast b => execApLast b s c
  | .acChk b => execAcChk b s c
  | .aeOk => execAeOk s c
  | .aeBadchk => execAeBadchk s c
  | .aeBadend b => execAeBadend b s c
  | .rsvdState5 => execRsvdState5 s
  | .rsvdState67 => execRsvdState67 s

/-- One rising clock edge of build c (40 R101). -/
def stepAt (c : Config.Params) (s : State) : Result := execAt c (s.fetch c) s.takeCycle

end Sys2Proof.Machine
end

