-- ==== Sys2Proof/Machine/Outputs.lean ====
section
/-! DEFINITION. The output ports (10_state R31, R32; 40 R102), functions of the registers and of the coming cycle's inputs; none
is stored. -/

namespace Sys2Proof.Machine

/-- `frame_ready` in the cycle the next step takes (40 R102). -/
def State.frameReady (s : State) : Bool :=
  !s.nextCycle.rst && s.nextCycle.inValid && s.state == .awaitEnd && s.nextCycle.inByte == 0x03#8 &&
    s.computedChecksum == s.receivedChecksum

/-- `payload_len`, the live register (10_state R32). -/
def State.payloadLen (s : State) : BitVec 8 := s.receivedCount

/-- `payload_out[i]`, the live cell; there is no such port for an index outside the buffer (10_state R31, R32). -/
def State.payloadOut (s : State) (i : Nat) (c : Config.Params := Config.hardware) : Option Byte :=
  if i < c.maxPayload then some (s.payloadByte i) else none

/-- The observation of the run so far, the oldest result first (70 R211). -/
def State.observation (s : State) : List Observation := s.observed.reverse

end Sys2Proof.Machine
end

