-- ==== Sys2Proof/Machine/Consume.lean ====
section
/-! DEFINITION. The operation as a whole, as 40_consume_dispatch lists it: `consume` (R100), the next-state table (R103) and the
clocked wrapper (R101). The step does not call these: it runs the transitions of files 41 to 46 one by one, and statements
compare the two. -/

namespace Sys2Proof.Machine

/-- `consume(s, b)`: the new state and `emit` (40 R100), for a state that satisfies 10_state R30. Right-hand sides read the
values from before the step (00_scope R13). -/
def consume (s : State) (b : Byte) (c : Config.Params := Config.hardware) : State × Bool :=
  match s.state with
  | .awaitStart =>
    if b = 0x02#8 then
      ({ s with declaredLength := 0, receivedCount := 0, computedChecksum := 0, state := .awaitLength }, false)
    else (s, false)
  | .awaitLength =>
    if c.maxPayload < b.toNat then ({ s with state := .awaitStart }, false)
    else if b = 0 then ({ s with declaredLength := 0, state := .awaitChecksum }, false)
    else ({ s with declaredLength := b, state := .accumulatingPayload }, false)
  | .accumulatingPayload =>
    let t := { s with
      payload := Memory.write s.payload s.receivedCount.toNat b
      computedChecksum := s.computedChecksum ^^^ b
      receivedCount := s.receivedCount + 1 }
    if s.receivedCount.toNat + 1 = s.declaredLength.toNat then ({ t with state := .awaitChecksum }, false)
    else ({ t with state := .accumulatingPayload }, false)
  | .awaitChecksum => ({ s with receivedChecksum := b, state := .awaitEnd }, false)
  | .awaitEnd =>
    ({ s with state := .awaitStart }, decide (b = 0x03#8 ∧ s.computedChecksum = s.receivedChecksum))
  | .unused5 => (s, false)
  | .unused6 => (s, false)
  | .unused7 => (s, false)

/-- The next value of `state` (40 R103), for the named phases. -/
def nextPhase (p : Phase) (b : Byte) (lastByte : Bool) (c : Config.Params := Config.hardware) : Phase :=
  match p with
  | .awaitStart => if b = 0x02#8 then .awaitLength else .awaitStart
  | .awaitLength =>
    if c.maxPayload < b.toNat then .awaitStart
    else if b = 0 then .awaitChecksum
    else .accumulatingPayload
  | .accumulatingPayload => if lastByte then .awaitChecksum else .accumulatingPayload
  | .awaitChecksum => .awaitEnd
  | .awaitEnd => .awaitStart
  | .unused5 => .unused5
  | .unused6 => .unused6
  | .unused7 => .unused7

/-- The wrapper at a rising clock edge (40 R101): INIT if rst, else CONSUME if in_valid, else IDLE; with the host's side of it:
the cycle's inputs are used up, and a CONSUME adds its result to the record (70 R211). -/
def clockEdge (s : State) (c : Config.Params := Config.hardware) : State :=
  let cy := s.nextCycle
  let s := { s with inputs := s.inputs.tail }
  if cy.rst then
    { s with
      state := .awaitStart, declaredLength := 0, receivedCount := 0, computedChecksum := 0, receivedChecksum := 0
      initDone := true }
  else if cy.inValid then
    let r := consume s cy.inByte c
    { r.1 with observed := (if r.2 then .frameReady r.1.payloadView else .noFrame) :: s.observed }
  else s

end Sys2Proof.Machine
end

