-- ==== Sys2Proof/Safety.lean ====
section
/-! DEFINITION. What counts as a sound state and a run over given bytes, in the terms the statements use: the invariant of the
whole machine, the wire frame as test input, and the feeding of bytes. -/

namespace Sys2Proof.Safety

open Sys2Proof.Machine

/-- A state in which a CONSUME has a meaning: INIT has been performed (70 R201) and the invariants I1 to I7 hold (10_state R30,
40 R100). -/
abbrev Ready (s : State) (c : Config.Params := Config.hardware) : Prop := s.initDone = true ∧ s.Legal c

/-- The invariant of the model: the state is ready, and the payload buffer has its canonical form. -/
abbrev Inv (s : State) (c : Config.Params := Config.hardware) : Prop := Ready s c ∧ Memory.wf s.payload c

/-- `frame(P)`: `[0x02, len(P), P..., XOR(P), 0x03]` (30_encoding R76). -/
def frame (p : List Byte) : List Byte :=
  [0x02#8, BitVec.ofNat 8 p.length] ++ p ++ [xorBytes p, 0x03#8]

/-- s with the bytes offered in the coming cycles, one a cycle, before whatever the host offers later (30_encoding R77). -/
def offer (bs : List Byte) (s : State) : State := { s with inputs := bs.map Cycle.ofByte ++ s.inputs }

/-- The outcome of one CONSUME step a byte (30_encoding R77). -/
def feed (bs : List Byte) (s : State) : Host.Outcome State Fault Refusal :=
  Host.Core.run Sys2Proof.core bs.length (offer bs s)

/-- Two states that no later result tells apart: the same phase and inputs, and the items the phase still reads are equal; the
stale items of 10_state R29 are free to differ. -/
def SameFuture (s t : State) : Prop :=
  s.state = t.state ∧ s.inputs = t.inputs ∧
    (s.state = .accumulatingPayload ∨ s.state = .awaitChecksum ∨ s.state = .awaitEnd →
      s.declaredLength = t.declaredLength ∧ s.receivedCount = t.receivedCount ∧ s.payloadView = t.payloadView) ∧
    (s.state = .awaitEnd → s.receivedChecksum = t.receivedChecksum)

end Sys2Proof.Safety
end

