-- ==== Sys2Proof/Certificates/Slice0/Obligations.lean ====
section
/-! DEFINITION. The statements about the machine. Where a statement names a build c of the block (`Config.Params`, any MAX_PAYLOAD from
1 to 255: 00_scope R7), it holds for every build; the others are about this hardware's build (`Config.hardware`). `Ready s` says
that INIT has been performed and the invariants of 10_state R30
hold; `Inv s` adds the canonical form of the payload buffer. The fields initDone, inputs and observed are the model's own (log
entries 4, 5 and 6): an equation for a whole next state says of them that they stay, that INIT is marked as performed, or what
result (70 R211) the step gives; the result is stated as `frame_ready` too. -/

open Sys2Proof Sys2Proof.Machine Sys2Proof.Safety

/-! ## Encoding and the transition map -/

/-- 30_encoding R78 to R80: in every build, every well-formed instruction's step word, read with any register guards that admit
its row, decodes to that instruction, its operand byte whole; and some guards admit it. -/
def Obligations.EncodeDecodeRoundTrip : Prop :=
  ∀ (c : Config.Params) (i : Instr), i.wellFormed c = true →
    (∀ g : Guards, i.admits g = true → decode (encode i) g c = i) ∧ ∃ g : Guards, i.admits g = true

/-- 30_encoding R80: in every build, what a step word decodes to is well-formed, is admitted by the guards it was read with, and
its own step word
agrees with the word on every bit of its row's mask. -/
def Obligations.DecodedInstructionFitsItsWord : Prop :=
  ∀ (c : Config.Params) (sw : StepWord) (g : Guards),
    (decode sw g c).wellFormed c = true ∧ (decode sw g c).admits g = true ∧
      encode (decode sw g c) &&& ((decode sw g c).row c).mask = sw &&& ((decode sw g c).row c).mask

/-- 30_encoding R81: in every build, for every step word and register guards exactly one row of the printed map applies, and it
is the row of the
decoded instruction; with state bits 0 to 4 that is one of rows 1 to 13. -/
def Obligations.ExactlyOneRowApplies : Prop :=
  ∀ (c : Config.Params) (sw : StepWord) (g : Guards),
    ((rows c).filter fun r => r.applies sw g).map (fun r => (r.mnemonic, r.pattern, r.mask)) =
      [(((decode sw g c).row c).mnemonic, ((decode sw g c).row c).pattern, ((decode sw g c).row c).mask)] ∧
    ((StepWord.stateBits sw).toNat ≤ 4 → decode sw g c ≠ .rsvdState5 ∧ decode sw g c ≠ .rsvdState67)

/-- 30_encoding R78, R79: the step word of a state is rst, in_valid, the phase's code and in_byte, from the top bit down, with
the codes of the spec. -/
def Obligations.StepWordLayout : Prop :=
  (∀ s : State, s.stepWord.toNat =
    4096 * s.nextCycle.rst.toNat + 2048 * s.nextCycle.inValid.toNat + 256 * s.state.code.toNat +
      s.nextCycle.inByte.toNat) ∧
  Phase.awaitStart.code = 0b000#3 ∧ Phase.awaitLength.code = 0b001#3 ∧ Phase.accumulatingPayload.code = 0b010#3 ∧
  Phase.awaitChecksum.code = 0b011#3 ∧ Phase.awaitEnd.code = 0b100#3 ∧ Phase.unused5.code = 0b101#3 ∧
  Phase.unused6.code = 0b110#3 ∧ Phase.unused7.code = 0b111#3

/-- Step words the spec prints (95_test_vectors 1.3, 2.2, 2.5; 30_encoding R80) decode to the transitions it names. -/
def Obligations.PrintedStepWordsDecode : Prop :=
  decode 0x0802#13 ⟨false, true⟩ = .asStart ∧ decode 0x08AA#13 ⟨false, true⟩ = .asSkip 0xAA#8 ∧
  decode 0x090B#13 ⟨false, true⟩ = .alOver 0x0B#8 ∧ decode 0x0900#13 ⟨false, true⟩ = .alZero ∧
  decode 0x090A#13 ⟨false, true⟩ = .alLen 0x0A#8 ∧ decode 0x0A4F#13 ⟨false, true⟩ = .apMore 0x4F#8 ∧
  decode 0x0A41#13 ⟨true, false⟩ = .apLast 0x41#8 ∧ decode 0x0B42#13 ⟨false, false⟩ = .acChk 0x42#8 ∧
  decode 0x0C03#13 ⟨false, true⟩ = .aeOk ∧ decode 0x0C03#13 ⟨false, false⟩ = .aeBadchk ∧
  decode 0x0C02#13 ⟨false, true⟩ = .aeBadend 0x02#8 ∧ decode 0x1C03#13 ⟨false, true⟩ = .init ∧
  decode 0x0403#13 ⟨false, true⟩ = .idle ∧ decode 0x0D00#13 ⟨false, true⟩ = .rsvdState5 ∧
  decode 0x0F00#13 ⟨false, true⟩ = .rsvdState67

/-- 40 R101, 30_encoding R80: a step uses up the coming cycle's inputs and executes the instruction that the step word and the
register guards decode to; nothing else happens around exec. -/
def Obligations.StepRunsFetchedInstruction : Prop :=
  ∀ (s : State) (i : Instr), decode s.stepWord s.guards = i →
    step s = exec i { s with inputs := s.inputs.tail }

/-- The model's own placing of a step word (log entry 8): whatever word decodes, the very next step runs its instruction, and
leaves the inputs that were to come. -/
def Obligations.PlacedWordRunsNext : Prop :=
  ∀ (s : State) (n w : Nat) (i : Instr), decodeTableWord n w = some i →
    (s.withFetchWord n w).fetch = i ∧ (s.withFetchWord n w).inputs.tail = s.inputs ∧
      step (s.withFetchWord n w) = exec i (s.withFetchWord n w).takeCycle

/-! ## What each instruction does -/

/-- 46 R160: INIT, from any state whatever, leaves AwaitStart and the four registers 0 and writes no payload cell; a cycle with rst
performs it whatever else is offered, reports nothing, and a second INIT changes nothing more. That INIT is marked as performed is
the model's own (log entry 4). -/
def Obligations.InitEffect : Prop :=
  (∀ s : State, exec .init s = .next { s with
    state := .awaitStart, declaredLength := 0, receivedCount := 0, computedChecksum := 0, receivedChecksum := 0
    initDone := true }) ∧
  (∀ s : State, s.nextCycle.rst = true → s.fetch = .init ∧ s.frameReady = false) ∧
  (∀ s t : State, exec .init s = .next t → exec .init t = .next t)

/-- 46 R161: IDLE writes nothing, in any state; it is the step of every cycle without rst and without a byte, and reports
nothing. -/
def Obligations.IdleEffect : Prop :=
  (∀ s : State, exec .idle s = .next s) ∧
  (∀ s : State, s.nextCycle.rst = false → s.nextCycle.inValid = false →
    s.fetch = .idle ∧ s.frameReady = false ∧ step s = .next { s with inputs := s.inputs.tail })

/-- The model's own reading of a host that has stopped (log entry 5): with no inputs left a step changes nothing at all. -/
def Obligations.StoppedHostChangesNothing : Prop :=
  ∀ s : State, s.inputs = [] → step s = .next s

/-- 41 R110: AS.START sets declared_length, received_count and computed_checksum to 0 and the phase to AwaitLength, keeps
received_checksum and every cell; it is the step of the byte 0x02 in AwaitStart, and reports NoFrame. -/
def Obligations.AsStartEffect : Prop :=
  ∀ s : State, Ready s → s.state = .awaitStart →
    exec .asStart s = .next { s with
      declaredLength := 0, receivedCount := 0, computedChecksum := 0, state := .awaitLength
      observed := .noFrame :: s.observed } ∧
    (s.nextCycle = Cycle.ofByte 0x02#8 → s.fetch = .asStart ∧ s.frameReady = false)

/-- 41 R111: AS.SKIP writes no register and no cell; it is the step of every other byte in AwaitStart, and reports NoFrame. -/
def Obligations.AsSkipEffect : Prop :=
  ∀ (s : State) (b : Byte), Ready s → s.state = .awaitStart → b ≠ 0x02#8 →
    exec (.asSkip b) s = .next { s with observed := .noFrame :: s.observed } ∧
    (s.nextCycle = Cycle.ofByte b → s.fetch = .asSkip b ∧ s.frameReady = false)

/-- 42 R121: AL.OVER writes the phase AwaitStart and nothing else, declared_length least of all; it is the step of every byte above
MAX_PAYLOAD in AwaitLength, and reports NoFrame. -/
def Obligations.AlOverEffect : Prop :=
  ∀ (s : State) (l : Byte), Ready s → s.state = .awaitLength → Config.hardware.maxPayload < l.toNat →
    exec (.alOver l) s = .next { s with state := .awaitStart, observed := .noFrame :: s.observed } ∧
    (s.nextCycle = Cycle.ofByte l → s.fetch = .alOver l ∧ s.frameReady = false)

/-- 42 R122: AL.ZERO sets declared_length to 0 and the phase to AwaitChecksum; it is the step of the byte 0 in AwaitLength, and
reports NoFrame. -/
def Obligations.AlZeroEffect : Prop :=
  ∀ s : State, Ready s → s.state = .awaitLength →
    exec .alZero s = .next { s with
      declaredLength := 0, state := .awaitChecksum, observed := .noFrame :: s.observed } ∧
    (s.nextCycle = Cycle.ofByte 0x00#8 → s.fetch = .alZero ∧ s.frameReady = false)

/-- 42 R123: AL.LEN sets declared_length to the byte, all eight bits of it, and the phase to AccumulatingPayload; it is the step of
every byte from 1 to MAX_PAYLOAD in AwaitLength, and reports NoFrame. -/
def Obligations.AlLenEffect : Prop :=
  ∀ (s : State) (l : Byte), Ready s → s.state = .awaitLength → 1 ≤ l.toNat → l.toNat ≤ Config.hardware.maxPayload →
    exec (.alLen l) s = .next { s with
      declaredLength := l, state := .accumulatingPayload, observed := .noFrame :: s.observed } ∧
    (s.nextCycle = Cycle.ofByte l → s.fetch = .alLen l ∧ s.frameReady = false)

/-- 43 R131: AP.MORE writes the byte to the cell of the old count, takes it into the running XOR, counts it and stays in the
phase; it is the step of every byte in AccumulatingPayload while the new count is not declared_length, and reports NoFrame. -/
def Obligations.ApMoreEffect : Prop :=
  ∀ (s : State) (b : Byte), Ready s → s.state = .accumulatingPayload →
    s.receivedCount.toNat + 1 ≠ s.declaredLength.toNat →
    exec (.apMore b) s = .next { s with
      payload := Memory.write s.payload s.receivedCount.toNat b
      computedChecksum := s.computedChecksum ^^^ b
      receivedCount := s.receivedCount + 1
      state := .accumulatingPayload
      observed := .noFrame :: s.observed } ∧
    (s.nextCycle = Cycle.ofByte b → s.fetch = .apMore b ∧ s.frameReady = false)

/-- 43 R132: AP.LAST does the same and goes to AwaitChecksum; it is the step of every byte in AccumulatingPayload when the new count
is declared_length, and reports NoFrame. -/
def Obligations.ApLastEffect : Prop :=
  ∀ (s : State) (b : Byte), Ready s → s.state = .accumulatingPayload →
    s.receivedCount.toNat + 1 = s.declaredLength.toNat →
    exec (.apLast b) s = .next { s with
      payload := Memory.write s.payload s.receivedCount.toNat b
      computedChecksum := s.computedChecksum ^^^ b
      receivedCount := s.receivedCount + 1
      state := .awaitChecksum
      observed := .noFrame :: s.observed } ∧
    (s.nextCycle = Cycle.ofByte b → s.fetch = .apLast b ∧ s.frameReady = false)

/-- 43 R130: an append happens only with 1 <= declared_length <= MAX_PAYLOAD and received_count < declared_length; its store
address is the old count and lies inside the buffer; it counts up by exactly 1, leaves the byte in that cell, keeps
declared_length and received_checksum, chooses the phase by the new count, and the running checksum is again the XOR of the
payload so far. -/
def Obligations.AppendStoresAtOldCount : Prop :=
  ∀ (s t : State) (b : Byte) (i : Instr), (i = .apMore b ∨ i = .apLast b) → Ready s → exec i s = .next t →
    1 ≤ s.declaredLength.toNat ∧ s.declaredLength.toNat ≤ Config.hardware.maxPayload ∧
      s.receivedCount.toNat < s.declaredLength.toNat ∧
      s.storeAddress = s.receivedCount.toNat ∧ s.storeAddress + 1 ≤ Config.hardware.maxPayload ∧
      t.receivedCount.toNat = s.receivedCount.toNat + 1 ∧
      Memory.read t.payload s.storeAddress = some b ∧ t.payloadView = s.payloadView ++ [b] ∧
      t.computedChecksum = s.computedChecksum ^^^ b ∧ t.computedChecksum = xorBytes t.payloadView ∧
      t.declaredLength = s.declaredLength ∧ t.receivedChecksum = s.receivedChecksum ∧
      t.state = (if t.receivedCount = t.declaredLength then .awaitChecksum else .accumulatingPayload)

/-- 44 R140: AC.CHK sets received_checksum to the byte and the phase to AwaitEnd; it is the step of every byte in AwaitChecksum, and
reports NoFrame even if the checksums are equal. -/
def Obligations.AcChkEffect : Prop :=
  ∀ (s : State) (c : Byte), Ready s → s.state = .awaitChecksum →
    exec (.acChk c) s = .next { s with
      receivedChecksum := c, state := .awaitEnd, observed := .noFrame :: s.observed } ∧
    (s.nextCycle = Cycle.ofByte c → s.fetch = .acChk c ∧ s.frameReady = false)

/-- 45 R151: AE.OK reports FrameReady with the payload view, sets the phase to AwaitStart and writes nothing else; it is the step of
the byte 0x03 in AwaitEnd with equal checksums, and frame_ready is 1 in its cycle. -/
def Obligations.AeOkEffect : Prop :=
  ∀ s : State, Ready s → s.state = .awaitEnd → s.computedChecksum = s.receivedChecksum →
    exec .aeOk s = .next { s with
      state := .awaitStart, observed := .frameReady s.payloadView :: s.observed } ∧
    s.payloadView.length = s.receivedCount.toNat ∧
    (s.nextCycle = Cycle.ofByte 0x03#8 → s.fetch = .aeOk ∧ s.frameReady = true)

/-- 45 R152: AE.BADCHK sets the phase to AwaitStart and writes nothing else; it is the step of the byte 0x03 in AwaitEnd with
unequal checksums, and reports NoFrame. -/
def Obligations.AeBadchkEffect : Prop :=
  ∀ s : State, Ready s → s.state = .awaitEnd → s.computedChecksum ≠ s.receivedChecksum →
    exec .aeBadchk s = .next { s with state := .awaitStart, observed := .noFrame :: s.observed } ∧
    (s.nextCycle = Cycle.ofByte 0x03#8 → s.fetch = .aeBadchk ∧ s.frameReady = false)

/-- 45 R153: AE.BADEND sets the phase to AwaitStart and writes nothing else; it is the step of every other byte in AwaitEnd,
whether or not the checksums agree, and reports NoFrame. -/
def Obligations.AeBadendEffect : Prop :=
  ∀ (s : State) (b : Byte), Ready s → s.state = .awaitEnd → b ≠ 0x03#8 →
    exec (.aeBadend b) s = .next { s with state := .awaitStart, observed := .noFrame :: s.observed } ∧
    (s.nextCycle = Cycle.ofByte b → s.fetch = .aeBadend b ∧ s.frameReady = false)

/-- 45 R150: in AwaitEnd, whatever the byte and the checksums, the step sets the phase to AwaitStart and writes nothing else; it
reports FrameReady exactly if both tests pass, and a byte other than 0x03 is AE.BADEND whatever the checksums; on entry the
payload is complete and computed_checksum its XOR. -/
def Obligations.AwaitEndVerdict : Prop :=
  ∀ (s : State) (b : Byte), Ready s → s.state = .awaitEnd → s.nextCycle = Cycle.ofByte b →
    step s = .next { s with
      state := .awaitStart
      inputs := s.inputs.tail
      observed := (if b = 0x03#8 ∧ s.computedChecksum = s.receivedChecksum then .frameReady s.payloadView else .noFrame) ::
        s.observed } ∧
    (b ≠ 0x03#8 → s.fetch = .aeBadend b) ∧ s.receivedCount = s.declaredLength ∧
    s.computedChecksum = xorBytes s.payloadView

/-- 46 R162: RSVD.STATE has no behaviour: both its rows fault in every state, and so does the step of any byte with an unused state
pattern; IDLE holds such a state and INIT leaves it. -/
def Obligations.ReservedStateFaults : Prop :=
  (∀ s : State, exec .rsvdState5 s = .fault .reservedState ∧ exec .rsvdState67 s = .fault .reservedState) ∧
  (∀ s : State, s.state.named = false → s.nextCycle.rst = false → s.nextCycle.inValid = true →
    step s = .fault .reservedState) ∧
  (∀ s : State, s.state.named = false → s.nextCycle.rst = false → s.nextCycle.inValid = false →
    step s = .next { s with inputs := s.inputs.tail }) ∧
  (∀ s : State, s.state.named = false → s.nextCycle.rst = true → ∃ t, step s = .next t ∧ t.state = .awaitStart)

/-! ## What each item of the state is written by, and what stays -/

/-- 10_state R23: declared_length is written by INIT, AS.START and AL.ZERO (0) and by AL.LEN (the length byte, at most MAX_PAYLOAD),
and by no other instruction. -/
def Obligations.DeclaredLengthWriters : Prop :=
  ∀ (i : Instr) (s t : State), exec i s = .next t →
    ((i = .init ∨ i = .asStart ∨ i = .alZero) ∧ t.declaredLength = 0) ∨
    (∃ l, i = .alLen l ∧ t.declaredLength = l ∧ 1 ≤ l.toNat ∧ l.toNat ≤ Config.hardware.maxPayload) ∨
    ((i ≠ .init ∧ i ≠ .asStart ∧ i ≠ .alZero ∧ ∀ l, i ≠ .alLen l) ∧ t.declaredLength = s.declaredLength)

/-- 10_state R24: received_count is written by INIT and AS.START (0) and by AP.MORE and AP.LAST (up by 1), and by no other
instruction. -/
def Obligations.ReceivedCountWriters : Prop :=
  ∀ (i : Instr) (s t : State), exec i s = .next t →
    ((i = .init ∨ i = .asStart) ∧ t.receivedCount = 0) ∨
    ((∃ b, i = .apMore b ∨ i = .apLast b) ∧ t.receivedCount = s.receivedCount + 1) ∨
    ((i ≠ .init ∧ i ≠ .asStart ∧ ∀ b, i ≠ .apMore b ∧ i ≠ .apLast b) ∧ t.receivedCount = s.receivedCount)

/-- 10_state R25: computed_checksum is written by INIT and AS.START (0) and by AP.MORE and AP.LAST (the XOR with the byte), and by no
other instruction. -/
def Obligations.ComputedChecksumWriters : Prop :=
  ∀ (i : Instr) (s t : State), exec i s = .next t →
    ((i = .init ∨ i = .asStart) ∧ t.computedChecksum = 0) ∨
    (∃ b, (i = .apMore b ∨ i = .apLast b) ∧ t.computedChecksum = s.computedChecksum ^^^ b) ∨
    ((i ≠ .init ∧ i ≠ .asStart ∧ ∀ b, i ≠ .apMore b ∧ i ≠ .apLast b) ∧ t.computedChecksum = s.computedChecksum)

/-- 10_state R26: received_checksum is written by INIT (0) and by AC.CHK (the byte), and by no other instruction, AS.START among
them. -/
def Obligations.ReceivedChecksumWriters : Prop :=
  ∀ (i : Instr) (s t : State), exec i s = .next t →
    (i = .init ∧ t.receivedChecksum = 0) ∨
    (∃ c, i = .acChk c ∧ t.receivedChecksum = c) ∨
    ((i ≠ .init ∧ ∀ c, i ≠ .acChk c) ∧ t.receivedChecksum = s.receivedChecksum)

/-- 10_state R22, 20_memory R54: an instruction other than AP.MORE and AP.LAST leaves every payload cell, the inputs to come and,
but for INIT, the mark of INIT as they were. -/
def Obligations.StorelessInstructionsKeepMemory : Prop :=
  ∀ (i : Instr) (s t : State), (∀ b, i ≠ .apMore b ∧ i ≠ .apLast b) → exec i s = .next t →
    (∀ a, Memory.read t.payload a = Memory.read s.payload a) ∧ (∀ a, t.payloadByte a = s.payloadByte a) ∧
      t.inputs = s.inputs ∧ (i ≠ .init → t.initDone = s.initDone)

/-- 20_memory R54, 43 R130: AP.MORE and AP.LAST write one cell, the one at the store address, and leave every other cell,
declared_length, received_checksum, the inputs to come and the mark of INIT as they were. -/
def Obligations.StoringInstructionsFrame : Prop :=
  ∀ (i : Instr) (b : Byte) (s t : State), (i = .apMore b ∨ i = .apLast b) → exec i s = .next t →
    (∀ a, a ≠ s.storeAddress → Memory.read t.payload a = Memory.read s.payload a) ∧
      Memory.read t.payload s.storeAddress = some b ∧ t.declaredLength = s.declaredLength ∧
      t.receivedChecksum = s.receivedChecksum ∧ t.inputs = s.inputs ∧ t.initDone = s.initDone

/-- 20_memory R53: no instruction, in any state, changes a cell outside the buffer; the store address of a ready state in
AccumulatingPayload lies inside it; and a byte there with a count that does not is a fault, not a wrapped or dropped write. -/
def Obligations.StoresStayInsideTheBuffer : Prop :=
  (∀ (i : Instr) (s t : State), exec i s = .next t → ∀ a, Config.hardware.maxPayload ≤ a →
    Memory.read t.payload a = Memory.read s.payload a) ∧
  (∀ s : State, Ready s → s.state = .accumulatingPayload → s.storeAddress < Config.hardware.maxPayload) ∧
  (∀ s : State, s.initDone = true → s.state = .accumulatingPayload → Config.hardware.maxPayload ≤ s.receivedCount.toNat →
    s.nextCycle.rst = false → s.nextCycle.inValid = true → step s = .fault .payloadIndexOutOfRange)

/-- 60 R176: a rejection, wherever it completes, writes the phase AwaitStart and nothing else, and reports NoFrame. -/
def Obligations.RejectionWritesOnlyThePhase : Prop :=
  ∀ (i : Instr) (s t : State), (i = .aeBadchk ∨ ∃ b, i = .alOver b ∨ i = .aeBadend b) → exec i s = .next t →
    t = { s with state := .awaitStart, observed := .noFrame :: s.observed }

/-- 60 R170 to R174: outside INIT the machine comes back to AwaitStart from another phase only by a reported frame, an oversized
length, a checksum mismatch or a bad end marker, each in its own phase. -/
def Obligations.OnlyTheseReturnToAwaitStart : Prop :=
  ∀ (i : Instr) (s t : State), exec i s = .next t → s.state ≠ .awaitStart → t.state = .awaitStart →
    i = .init ∨ (∃ l, i = .alOver l ∧ s.state = .awaitLength ∧ Config.hardware.maxPayload < l.toNat) ∨
      (i = .aeOk ∧ s.state = .awaitEnd ∧ s.computedChecksum = s.receivedChecksum) ∨
      (i = .aeBadchk ∧ s.state = .awaitEnd ∧ s.computedChecksum ≠ s.receivedChecksum) ∨
      (∃ b, i = .aeBadend b ∧ s.state = .awaitEnd ∧ b ≠ 0x03#8)

/-! ## The operation as a whole -/

/-- 40 R101, R100, 00_scope R7: in every build, in a ready state the step is the clocked wrapper over `consume`, with the model's
own inputs and record (log entries 5 and 6) beside it; in any state at all it is so for the cycles with rst or without a byte; and
this hardware's step and meanings are those of its build. -/
def Obligations.StepIsTheClockedWrapper : Prop :=
  (∀ (c : Config.Params) (s : State), Ready s c → stepAt c s = .next (clockEdge s c)) ∧
  (∀ (c : Config.Params) (s : State), s.nextCycle.rst = true ∨ s.nextCycle.inValid = false →
    stepAt c s = .next (clockEdge s c)) ∧
  (∀ s : State, step s = stepAt Config.hardware s) ∧ (∀ (i : Instr) (s : State), exec i s = execAt Config.hardware i s) ∧
  (∀ s : State, Ready s → step s = .next (clockEdge s)) ∧
  (∀ s : State, s.nextCycle.rst = true ∨ s.nextCycle.inValid = false → step s = .next (clockEdge s))

/-- 40 R103: in every build, in a ready state every byte moves the phase as the next-state table says. -/
def Obligations.NextPhaseFollowsTheTable : Prop :=
  (∀ (c : Config.Params) (s : State), Ready s c → s.nextCycle.rst = false → s.nextCycle.inValid = true →
    ∃ t, stepAt c s = .next t ∧
      t.state = nextPhase s.state s.nextCycle.inByte (decide (s.receivedCount.toNat + 1 = s.declaredLength.toNat)) c) ∧
  (∀ s : State, Ready s → s.nextCycle.rst = false → s.nextCycle.inValid = true →
    ∃ t, step s = .next t ∧
      t.state = nextPhase s.state s.nextCycle.inByte (decide (s.receivedCount.toNat + 1 = s.declaredLength.toNat)))

/-- 40 R103: which phase each phase other than AwaitStart is entered from, by an instruction that is a CONSUME. -/
def Obligations.PhasesAreEnteredInOrder : Prop :=
  ∀ (i : Instr) (s t : State), i.isConsume = true → exec i s = .next t →
    (t.state = .awaitEnd → s.state = .awaitChecksum) ∧
    (t.state = .awaitChecksum →
      (s.state = .awaitLength ∧ t.declaredLength = 0) ∨ s.state = .accumulatingPayload) ∧
    (t.state = .accumulatingPayload →
      (s.state = .awaitLength ∧ 1 ≤ t.declaredLength.toNat) ∨ s.state = .accumulatingPayload) ∧
    (t.state = .awaitLength → s.state = .awaitStart) ∧ t.state.named = true

/-- 40 R102: frame_ready is the combinational function the rule gives, and it is 1 exactly in a cycle whose step is AE.OK. -/
def Obligations.FrameReadyIsExactlyAeOk : Prop :=
  ∀ s : State,
    (s.frameReady = true ↔ s.nextCycle.rst = false ∧ s.nextCycle.inValid = true ∧ s.state = .awaitEnd ∧
      s.nextCycle.inByte = 0x03#8 ∧ s.computedChecksum = s.receivedChecksum) ∧
    (s.frameReady = true ↔ s.fetch = .aeOk)

/-- 70 R211, 10_state R27: a step from a ready state adds to the observation one result if it is a CONSUME, FrameReady with the
payload view when frame_ready is 1 and NoFrame otherwise, and nothing if it is INIT or IDLE. -/
def Obligations.ObservationRecordsEachConsume : Prop :=
  ∀ s : State, Ready s → ∃ t, step s = .next t ∧
    t.observed =
      (if s.fetch.isConsume = true then
        [if s.frameReady = true then Observation.frameReady s.payloadView else Observation.noFrame]
      else []) ++ s.observed

/-- 10_state R31, R32: payload_len is the count and payload_out[i] the cell, for the ten indices there are; a cell something has
written shows what was written last. -/
def Obligations.OutputsFollowTheRegisters : Prop :=
  ∀ (s : State) (i : Nat), s.payloadLen = s.receivedCount ∧
    (i < 10 → s.payloadOut i = some (s.payloadByte i)) ∧ (10 ≤ i → s.payloadOut i = none) ∧
    (∀ b, i < 10 → Memory.read s.payload i = some b → s.payloadOut i = some b) ∧
    (∀ b, i < 10 → Memory.read (Memory.write s.payload i b) i = some b)

/-! ## Reset, invariants and stops -/

/-- 10_state R33: after reset the phase is AwaitStart, the four registers are 0 and payload_len is 0; any INIT gives the same
values. -/
def Obligations.ResetValues : Prop :=
  State.reset.state = .awaitStart ∧ State.reset.declaredLength = 0 ∧ State.reset.receivedCount = 0 ∧
  State.reset.computedChecksum = 0 ∧ State.reset.receivedChecksum = 0 ∧ State.reset.payloadLen = 0 ∧
  ∀ s t : State, exec .init s = .next t →
    t.state = State.reset.state ∧ t.declaredLength = State.reset.declaredLength ∧
    t.receivedCount = State.reset.receivedCount ∧ t.computedChecksum = State.reset.computedChecksum ∧
    t.receivedChecksum = State.reset.receivedChecksum ∧ t.payload = s.payload ∧
    t.payloadLen = 0 ∧ (s.nextCycle.rst = true → s.frameReady = false)

/-- 10_state R30: the state after reset satisfies the invariants, in every build. -/
def Obligations.ResetSatisfiesInvariants : Prop := (∀ c : Config.Params, Inv State.reset c) ∧ Inv State.reset

/-- 70 R208, 10_state R30: once INIT has been performed (log entry 4), in every build, from every state that satisfies the
invariants, whatever the host does in the coming cycle, the step completes (no fault, no refusal) and its state satisfies them again. -/
def Obligations.EveryStepCompletesAndKeepsInvariants : Prop :=
  (∀ (c : Config.Params) (s : State), Ready s c → ∃ t, stepAt c s = .next t ∧ Ready t c) ∧
  (∀ s : State, Ready s → ∃ t, step s = .next t ∧ Ready t)

/-- 10_state R30: every state a run from reset produces, over any cycles of any length, satisfies the invariants. -/
def Obligations.ReachableStatesSatisfyInvariants : Prop :=
  ∀ cs : List Cycle, ∃ t, Host.Core.run Sys2Proof.core cs.length { State.reset with inputs := cs } = .next t ∧
    t.I1 ∧ t.I2 ∧ t.I3 ∧ t.I4 ∧ t.I5 ∧ t.I6 ∧ t.I7

/-- The canonical form of the payload buffer is kept by every step that completes, from every state that has it, the invariants of
R30 or not. -/
def Obligations.MemoryFormIsKept : Prop :=
  ∀ s t : State, Memory.wf s.payload → step s = .next t → Memory.wf t.payload

/-- 46 R160 (a), (b): INIT from any state at all, a power-up with an unused phase pattern among them, leads to a state that satisfies
the invariants and holds the same payload cells; where the payload list has its canonical form (log entry 2), so it has after. -/
def Obligations.InitRecoversFromAnyState : Prop :=
  ∀ s : State, s.nextCycle.rst = true →
    ∃ t, step s = .next t ∧ Ready t ∧ (Memory.wf s.payload → Inv t) ∧ t.payload = s.payload ∧ t.observed = s.observed

/-- 93 U1 (log entry 3): a byte in a state that violates the invariants is a fault, never a next state. -/
def Obligations.ByteOutsideInvariantsFaults : Prop :=
  ∀ s : State, s.initDone = true → ¬ s.Legal → s.nextCycle.rst = false → s.nextCycle.inValid = true →
    ∃ f, step s = .fault f

/-- 70 R201, and the model's own mark of INIT and refusal for it (log entry 4): a byte offered before the first INIT has no meaning:
the step gives no next state, and in a named phase it is the refusal that says so. -/
def Obligations.ByteBeforeInitHasNoMeaning : Prop :=
  ∀ s : State, s.initDone = false → s.nextCycle.rst = false → s.nextCycle.inValid = true →
    (∀ t, step s ≠ .next t) ∧ (s.state.named = true → step s = .refused .consumeBeforeInit)

/-- 30_encoding R80, R81: no step of any state is refused because its row does not apply or because an instruction has no meaning. -/
def Obligations.StepNeverLacksARow : Prop :=
  ∀ s : State, step s ≠ .refused .rowNotSelected ∧ ∀ m, step s ≠ .refused (.notModelled m)

/-- 20_memory R61, 70 R206: each cycle's inputs are used up by exactly one step. -/
def Obligations.EachCycleIsUsedOnce : Prop :=
  ∀ s t : State, step s = .next t → t.inputs = s.inputs.tail

/-! ## Frames -/

/-- 95 P1 and P2, 30_encoding R84: from any ready state in AwaitStart, bytes other than 0x02 and then the frame of any payload that
fits report NoFrame for every byte but the last and FrameReady with that payload for the last, and end in AwaitStart. -/
def Obligations.WellFormedFrameIsDecoded : Prop :=
  ∀ (s : State) (g p : List Byte), Ready s → s.state = .awaitStart → (∀ b ∈ g, b ≠ 0x02#8) →
    p.length ≤ Config.hardware.maxPayload →
    ∃ t, feed (g ++ frame p) s = .next t ∧ t.state = .awaitStart ∧ t.inputs = s.inputs ∧
      t.receivedCount.toNat = p.length ∧ t.payloadView = p ∧
      t.observed = .frameReady p :: (List.replicate (g.length + p.length + 3) Observation.noFrame ++ s.observed)

/-- 95 P3: the frame with one payload byte changed, or with its checksum byte changed, reports NoFrame for every byte and ends in
AwaitStart. -/
def Obligations.CorruptedFrameIsRejected : Prop :=
  ∀ (s : State) (p : List Byte) (d : Byte), Ready s → s.state = .awaitStart → p.length ≤ Config.hardware.maxPayload → d ≠ 0 →
    (∀ (q r : List Byte) (x : Byte), p = q ++ [x] ++ r →
      ∃ t, feed ([0x02#8, BitVec.ofNat 8 p.length] ++ (q ++ [x ^^^ d] ++ r) ++ [xorBytes p, 0x03#8]) s = .next t ∧
        t.state = .awaitStart ∧
        t.observed = List.replicate (p.length + 4) Observation.noFrame ++ s.observed) ∧
    (∃ t, feed ([0x02#8, BitVec.ofNat 8 p.length] ++ p ++ [xorBytes p ^^^ d, 0x03#8]) s = .next t ∧
      t.state = .awaitStart ∧ t.observed = List.replicate (p.length + 4) Observation.noFrame ++ s.observed)

/-- 95 P4: the frame with its last byte replaced by any byte other than 0x03 reports NoFrame for every byte and ends in AwaitStart,
not in AwaitLength even if that byte is 0x02. -/
def Obligations.BadEndMarkerIsRejected : Prop :=
  ∀ (s : State) (p : List Byte) (e : Byte), Ready s → s.state = .awaitStart → p.length ≤ Config.hardware.maxPayload →
    e ≠ 0x03#8 →
    ∃ t, feed ([0x02#8, BitVec.ofNat 8 p.length] ++ p ++ [xorBytes p, e]) s = .next t ∧ t.state = .awaitStart ∧
      t.observed = List.replicate (p.length + 4) Observation.noFrame ++ s.observed

/-- 30_encoding R84: fed from a ready state in AwaitStart, a byte sequence ends with FrameReady exactly if it is a prefix that leaves
the machine in AwaitStart followed by the frame of a payload that fits, and the view is that payload. -/
def Obligations.AcceptedLanguage : Prop :=
  ∀ (s : State) (bs v : List Byte), Ready s → s.state = .awaitStart → bs ≠ [] →
    ((∃ t, feed bs s = .next t ∧ t.observed.head? = some (.frameReady v)) ↔
      ∃ g, bs = g ++ frame v ∧ v.length ≤ Config.hardware.maxPayload ∧ ∃ u, feed g s = .next u ∧ u.state = .awaitStart)

/-- 40 R103: after AS.START at most MAX_PAYLOAD + 3 bytes bring the machine back to AwaitStart, whatever the bytes are. -/
def Obligations.BackInAwaitStartInBoundedSteps : Prop :=
  ∀ (s : State) (bs : List Byte), Ready s → s.state = .awaitLength → bs.length = Config.hardware.maxPayload + 3 →
    ∃ k ≤ Config.hardware.maxPayload + 3, ∃ t, feed (bs.take k) s = .next t ∧ t.state = .awaitStart

/-- 95 T6: from AwaitStart no frame is reported within three bytes, so two reported frames are at least four bytes apart. -/
def Obligations.FramesAreFourBytesApart : Prop :=
  ∀ (s t : State) (bs : List Byte), Ready s → s.state = .awaitStart → bs.length ≤ 3 → feed bs s = .next t →
    t.observed = List.replicate bs.length Observation.noFrame ++ s.observed

/-- 20_memory R63: after a frame the payload view stays as it is through any bytes other than 0x02, and the next start byte empties
it. -/
def Obligations.PayloadViewLastsUntilNextStart : Prop :=
  ∀ (s : State) (g : List Byte), Ready s → s.state = .awaitStart → (∀ b ∈ g, b ≠ 0x02#8) →
    (∃ t, feed g s = .next t ∧ t.state = .awaitStart ∧ t.payloadView = s.payloadView ∧ t.payloadLen = s.payloadLen) ∧
    (∃ t, feed (g ++ [0x02#8]) s = .next t ∧ t.payloadView = [] ∧ t.payloadLen = 0)

/-- 30_encoding R74: 0x02 and 0x03 are markers only where they are looked for. In AwaitStart 0x02 begins a frame and 0x03 is
garbage; in AwaitLength they are the lengths 2 and 3; in AccumulatingPayload they are stored and counted like any byte, and neither
begins nor ends a frame; in AwaitChecksum they are checksums; in AwaitEnd 0x03 ends the frame with its verdict and 0x02 is a wrong
end marker that begins none. Each clause gives the whole next state. -/
def Obligations.MarkersArePositional : Prop :=
  ∀ (s : State) (m : Byte), Ready s → (m = 0x02#8 ∨ m = 0x03#8) → s.nextCycle = Cycle.ofByte m →
    (s.state = .awaitStart → m = 0x02#8 → step s = .next { s with
      state := .awaitLength, declaredLength := 0, receivedCount := 0, computedChecksum := 0
      inputs := s.inputs.tail, observed := .noFrame :: s.observed }) ∧
    (s.state = .awaitStart → m = 0x03#8 → step s = .next { s with
      inputs := s.inputs.tail, observed := .noFrame :: s.observed }) ∧
    (s.state = .awaitLength → step s = .next { s with
      state := .accumulatingPayload, declaredLength := m
      inputs := s.inputs.tail, observed := .noFrame :: s.observed }) ∧
    (s.state = .accumulatingPayload → step s = .next { s with
      state := (if s.receivedCount.toNat + 1 = s.declaredLength.toNat then .awaitChecksum else .accumulatingPayload)
      payload := Memory.write s.payload s.receivedCount.toNat m
      computedChecksum := s.computedChecksum ^^^ m
      receivedCount := s.receivedCount + 1
      inputs := s.inputs.tail, observed := .noFrame :: s.observed }) ∧
    (s.state = .awaitChecksum → step s = .next { s with
      state := .awaitEnd, receivedChecksum := m
      inputs := s.inputs.tail, observed := .noFrame :: s.observed }) ∧
    (s.state = .awaitEnd → m = 0x02#8 → step s = .next { s with
      state := .awaitStart, inputs := s.inputs.tail, observed := .noFrame :: s.observed }) ∧
    (s.state = .awaitEnd → m = 0x03#8 → step s = .next { s with
      state := .awaitStart, inputs := s.inputs.tail
      observed :=
        (if s.computedChecksum = s.receivedChecksum then .frameReady s.payloadView else .noFrame) :: s.observed })

/-- 10_state R29, 60 R178, 70 R211: two ready states that differ only in stale items (cells above the count, received_checksum before
AC.CHK, and in AwaitStart and AwaitLength all registers and cells) step alike: the same frame_ready, the same results, and again
two states that differ only in stale items. -/
def Obligations.StaleItemsHaveNoInfluence : Prop :=
  ∀ s t : State, Ready s → Ready t → SameFuture s t →
    s.frameReady = t.frameReady ∧
    ∃ s' t', step s = .next s' ∧ step t = .next t' ∧ SameFuture s' t' ∧
      ∃ os, s'.observed = os ++ s.observed ∧ t'.observed = os ++ t.observed

/-- 46 R161 (a), 95 T8: over any sequence of cycles, taking the cycles without rst and without a byte out changes neither the state
the run ends in nor its observation. -/
def Obligations.IdleCyclesHaveNoInfluence : Prop :=
  ∀ (s : State) (cs : List Cycle), Ready s →
    ∃ t, Host.Core.run Sys2Proof.core cs.length { s with inputs := cs } = .next t ∧
      Host.Core.run Sys2Proof.core (cs.filter fun c => c.rst || c.inValid).length
        { s with inputs := cs.filter fun c => c.rst || c.inValid } = .next t

/-- 40 R104: the checksum of a payload does not depend on the order of its bytes, is changed by changing exactly one byte, and is
left as it was by changing two bytes by the same difference. -/
def Obligations.ChecksumDetectsOneChangeOnly : Prop :=
  (∀ a b c : Byte, a ^^^ 0 = a ∧ a ^^^ a = 0 ∧ a ^^^ b = b ^^^ a ∧ (a ^^^ b) ^^^ c = a ^^^ (b ^^^ c)) ∧
  (∀ p q : List Byte, p.Perm q → xorBytes p = xorBytes q) ∧
  (∀ (q r : List Byte) (x y : Byte), x ≠ y → xorBytes (q ++ [x] ++ r) ≠ xorBytes (q ++ [y] ++ r)) ∧
  (∀ (q r u : List Byte) (x y d : Byte),
    xorBytes (q ++ [x ^^^ d] ++ r ++ [y ^^^ d] ++ u) = xorBytes (q ++ [x] ++ r ++ [y] ++ u)) ∧
  xorBytes [] = 0x00#8
end

