-- ==== Sys2Proof/Laws/Decode.lean ====
section
/-! SUPPORT. The fields of a packed step word, and what decoding makes of each packed word. -/

namespace Sys2Proof

@[simp] theorem StepWord.rst_pack (r v : Bool) (p : BitVec 3) (b : Byte) :
    StepWord.rst (StepWord.pack r v p b) = r := by
  cases r <;> cases v <;> revert p b <;> decide

@[simp] theorem StepWord.inValid_pack (r v : Bool) (p : BitVec 3) (b : Byte) :
    StepWord.inValid (StepWord.pack r v p b) = v := by
  cases r <;> cases v <;> revert p b <;> decide

@[simp] theorem StepWord.stateBits_pack (r v : Bool) (p : BitVec 3) (b : Byte) :
    StepWord.stateBits (StepWord.pack r v p b) = p := by
  cases r <;> cases v <;> revert p b <;> decide

@[simp] theorem StepWord.inByte_pack (r v : Bool) (p : BitVec 3) (b : Byte) :
    StepWord.inByte (StepWord.pack r v p b) = b := by
  cases r <;> cases v <;> revert p b <;> decide

/-- A step word is its four fields. -/
theorem StepWord.pack_fields (sw : StepWord) :
    StepWord.pack (StepWord.rst sw) (StepWord.inValid sw) (StepWord.stateBits sw) (StepWord.inByte sw) = sw := by
  unfold StepWord.pack StepWord.rst StepWord.inValid StepWord.stateBits StepWord.inByte
  apply BitVec.eq_of_getLsbD_eq
  intro i hi
  simp only [BitVec.getLsbD_append, BitVec.getLsbD_ofBool, BitVec.getLsbD_extractLsb']
  interval_cases i <;> simp

/-- Masking a step word masks its fields. -/
theorem StepWord.pack_and_pack (r v r' v' : Bool) (p p' : BitVec 3) (b b' : Byte) :
    StepWord.pack r v p b &&& StepWord.pack r' v' p' b' =
      StepWord.pack (r && r') (v && v') (p &&& p') (b &&& b') := by
  unfold StepWord.pack
  rw [show BitVec.ofBool (r && r') = BitVec.ofBool r &&& BitVec.ofBool r' by simp,
    show BitVec.ofBool (v && v') = BitVec.ofBool v &&& BitVec.ofBool v' by simp, BitVec.and_append, BitVec.and_append,
    BitVec.and_append]

/-- Step words are equal exactly when their fields are. -/
theorem StepWord.pack_inj {r v r' v' : Bool} {p p' : BitVec 3} {b b' : Byte} :
    StepWord.pack r v p b = StepWord.pack r' v' p' b' ↔ r = r' ∧ v = v' ∧ p = p' ∧ b = b' := by
  constructor
  · intro h
    exact ⟨by simpa using congrArg StepWord.rst h, by simpa using congrArg StepWord.inValid h,
      by simpa using congrArg StepWord.stateBits h, by simpa using congrArg StepWord.inByte h⟩
  · rintro ⟨rfl, rfl, rfl, rfl⟩; rfl

end Sys2Proof
end

