-- ==== Sys2Proof/Laws/State.lean ====
section
/-! SUPPORT. What each update of the state does to each field, one lemma a pair. -/

namespace Sys2Proof.Machine

/-! ### goto -/

@[simp] theorem State.goto_state (s : State) (p : Phase) : (s.goto p).state = p := rfl
@[simp] theorem State.goto_payload (s : State) (p : Phase) : (s.goto p).payload = s.payload := rfl
@[simp] theorem State.goto_declaredLength (s : State) (p : Phase) : (s.goto p).declaredLength = s.declaredLength := rfl
@[simp] theorem State.goto_receivedCount (s : State) (p : Phase) : (s.goto p).receivedCount = s.receivedCount := rfl
@[simp] theorem State.goto_computedChecksum (s : State) (p : Phase) : (s.goto p).computedChecksum = s.computedChecksum := rfl
@[simp] theorem State.goto_receivedChecksum (s : State) (p : Phase) : (s.goto p).receivedChecksum = s.receivedChecksum := rfl
@[simp] theorem State.goto_initDone (s : State) (p : Phase) : (s.goto p).initDone = s.initDone := rfl
@[simp] theorem State.goto_inputs (s : State) (p : Phase) : (s.goto p).inputs = s.inputs := rfl
@[simp] theorem State.goto_observed (s : State) (p : Phase) : (s.goto p).observed = s.observed := rfl

/-! ### setPayload -/

@[simp] theorem State.setPayload_state (s : State) (m : Memory) : (s.setPayload m).state = s.state := rfl
@[simp] theorem State.setPayload_payload (s : State) (m : Memory) : (s.setPayload m).payload = m := rfl
@[simp] theorem State.setPayload_declaredLength (s : State) (m : Memory) : (s.setPayload m).declaredLength = s.declaredLength := rfl
@[simp] theorem State.setPayload_receivedCount (s : State) (m : Memory) : (s.setPayload m).receivedCount = s.receivedCount := rfl
@[simp] theorem State.setPayload_computedChecksum (s : State) (m : Memory) : (s.setPayload m).computedChecksum = s.computedChecksum := rfl
@[simp] theorem State.setPayload_receivedChecksum (s : State) (m : Memory) : (s.setPayload m).receivedChecksum = s.receivedChecksum := rfl
@[simp] theorem State.setPayload_initDone (s : State) (m : Memory) : (s.setPayload m).initDone = s.initDone := rfl
@[simp] theorem State.setPayload_inputs (s : State) (m : Memory) : (s.setPayload m).inputs = s.inputs := rfl
@[simp] theorem State.setPayload_observed (s : State) (m : Memory) : (s.setPayload m).observed = s.observed := rfl

/-! ### setDeclaredLength -/

@[simp] theorem State.setDeclaredLength_state (s : State) (v : BitVec 8) : (s.setDeclaredLength v).state = s.state := rfl
@[simp] theorem State.setDeclaredLength_payload (s : State) (v : BitVec 8) : (s.setDeclaredLength v).payload = s.payload := rfl
@[simp] theorem State.setDeclaredLength_declaredLength (s : State) (v : BitVec 8) : (s.setDeclaredLength v).declaredLength = v := rfl
@[simp] theorem State.setDeclaredLength_receivedCount (s : State) (v : BitVec 8) : (s.setDeclaredLength v).receivedCount = s.receivedCount := rfl
@[simp] theorem State.setDeclaredLength_computedChecksum (s : State) (v : BitVec 8) : (s.setDeclaredLength v).computedChecksum = s.computedChecksum := rfl
@[simp] theorem State.setDeclaredLength_receivedChecksum (s : State) (v : BitVec 8) : (s.setDeclaredLength v).receivedChecksum = s.receivedChecksum := rfl
@[simp] theorem State.setDeclaredLength_initDone (s : State) (v : BitVec 8) : (s.setDeclaredLength v).initDone = s.initDone := rfl
@[simp] theorem State.setDeclaredLength_inputs (s : State) (v : BitVec 8) : (s.setDeclaredLength v).inputs = s.inputs := rfl
@[simp] theorem State.setDeclaredLength_observed (s : State) (v : BitVec 8) : (s.setDeclaredLength v).observed = s.observed := rfl

/-! ### setReceivedCount -/

@[simp] theorem State.setReceivedCount_state (s : State) (v : BitVec 8) : (s.setReceivedCount v).state = s.state := rfl
@[simp] theorem State.setReceivedCount_payload (s : State) (v : BitVec 8) : (s.setReceivedCount v).payload = s.payload := rfl
@[simp] theorem State.setReceivedCount_declaredLength (s : State) (v : BitVec 8) : (s.setReceivedCount v).declaredLength = s.declaredLength := rfl
@[simp] theorem State.setReceivedCount_receivedCount (s : State) (v : BitVec 8) : (s.setReceivedCount v).receivedCount = v := rfl
@[simp] theorem State.setReceivedCount_computedChecksum (s : State) (v : BitVec 8) : (s.setReceivedCount v).computedChecksum = s.computedChecksum := rfl
@[simp] theorem State.setReceivedCount_receivedChecksum (s : State) (v : BitVec 8) : (s.setReceivedCount v).receivedChecksum = s.receivedChecksum := rfl
@[simp] theorem State.setReceivedCount_initDone (s : State) (v : BitVec 8) : (s.setReceivedCount v).initDone = s.initDone := rfl
@[simp] theorem State.setReceivedCount_inputs (s : State) (v : BitVec 8) : (s.setReceivedCount v).inputs = s.inputs := rfl
@[simp] theorem State.setReceivedCount_observed (s : State) (v : BitVec 8) : (s.setReceivedCount v).observed = s.observed := rfl

/-! ### setComputedChecksum -/

@[simp] theorem State.setComputedChecksum_state (s : State) (v : Byte) : (s.setComputedChecksum v).state = s.state := rfl
@[simp] theorem State.setComputedChecksum_payload (s : State) (v : Byte) : (s.setComputedChecksum v).payload = s.payload := rfl
@[simp] theorem State.setComputedChecksum_declaredLength (s : State) (v : Byte) : (s.setComputedChecksum v).declaredLength = s.declaredLength := rfl
@[simp] theorem State.setComputedChecksum_receivedCount (s : State) (v : Byte) : (s.setComputedChecksum v).receivedCount = s.receivedCount := rfl
@[simp] theorem State.setComputedChecksum_computedChecksum (s : State) (v : Byte) : (s.setComputedChecksum v).computedChecksum = v := rfl
@[simp] theorem State.setComputedChecksum_receivedChecksum (s : State) (v : Byte) : (s.setComputedChecksum v).receivedChecksum = s.receivedChecksum := rfl
@[simp] theorem State.setComputedChecksum_initDone (s : State) (v : Byte) : (s.setComputedChecksum v).initDone = s.initDone := rfl
@[simp] theorem State.setComputedChecksum_inputs (s : State) (v : Byte) : (s.setComputedChecksum v).inputs = s.inputs := rfl
@[simp] theorem State.setComputedChecksum_observed (s : State) (v : Byte) : (s.setComputedChecksum v).observed = s.observed := rfl

/-! ### setReceivedChecksum -/

@[simp] theorem State.setReceivedChecksum_state (s : State) (v : Byte) : (s.setReceivedChecksum v).state = s.state := rfl
@[simp] theorem State.setReceivedChecksum_payload (s : State) (v : Byte) : (s.setReceivedChecksum v).payload = s.payload := rfl
@[simp] theorem State.setReceivedChecksum_declaredLength (s : State) (v : Byte) : (s.setReceivedChecksum v).declaredLength = s.declaredLength := rfl
@[simp] theorem State.setReceivedChecksum_receivedCount (s : State) (v : Byte) : (s.setReceivedChecksum v).receivedCount = s.receivedCount := rfl
@[simp] theorem State.setReceivedChecksum_computedChecksum (s : State) (v : Byte) : (s.setReceivedChecksum v).computedChecksum = s.computedChecksum := rfl
@[simp] theorem State.setReceivedChecksum_receivedChecksum (s : State) (v : Byte) : (s.setReceivedChecksum v).receivedChecksum = v := rfl
@[simp] theorem State.setReceivedChecksum_initDone (s : State) (v : Byte) : (s.setReceivedChecksum v).initDone = s.initDone := rfl
@[simp] theorem State.setReceivedChecksum_inputs (s : State) (v : Byte) : (s.setReceivedChecksum v).inputs = s.inputs := rfl
@[simp] theorem State.setReceivedChecksum_observed (s : State) (v : Byte) : (s.setReceivedChecksum v).observed = s.observed := rfl

/-! ### setInitDone -/

@[simp] theorem State.setInitDone_state (s : State) (v : Bool) : (s.setInitDone v).state = s.state := rfl
@[simp] theorem State.setInitDone_payload (s : State) (v : Bool) : (s.setInitDone v).payload = s.payload := rfl
@[simp] theorem State.setInitDone_declaredLength (s : State) (v : Bool) : (s.setInitDone v).declaredLength = s.declaredLength := rfl
@[simp] theorem State.setInitDone_receivedCount (s : State) (v : Bool) : (s.setInitDone v).receivedCount = s.receivedCount := rfl
@[simp] theorem State.setInitDone_computedChecksum (s : State) (v : Bool) : (s.setInitDone v).computedChecksum = s.computedChecksum := rfl
@[simp] theorem State.setInitDone_receivedChecksum (s : State) (v : Bool) : (s.setInitDone v).receivedChecksum = s.receivedChecksum := rfl
@[simp] theorem State.setInitDone_initDone (s : State) (v : Bool) : (s.setInitDone v).initDone = v := rfl
@[simp] theorem State.setInitDone_inputs (s : State) (v : Bool) : (s.setInitDone v).inputs = s.inputs := rfl
@[simp] theorem State.setInitDone_observed (s : State) (v : Bool) : (s.setInitDone v).observed = s.observed := rfl

/-! ### setInputs -/

@[simp] theorem State.setInputs_state (s : State) (cs : List Cycle) : (s.setInputs cs).state = s.state := rfl
@[simp] theorem State.setInputs_payload (s : State) (cs : List Cycle) : (s.setInputs cs).payload = s.payload := rfl
@[simp] theorem State.setInputs_declaredLength (s : State) (cs : List Cycle) : (s.setInputs cs).declaredLength = s.declaredLength := rfl
@[simp] theorem State.setInputs_receivedCount (s : State) (cs : List Cycle) : (s.setInputs cs).receivedCount = s.receivedCount := rfl
@[simp] theorem State.setInputs_computedChecksum (s : State) (cs : List Cycle) : (s.setInputs cs).computedChecksum = s.computedChecksum := rfl
@[simp] theorem State.setInputs_receivedChecksum (s : State) (cs : List Cycle) : (s.setInputs cs).receivedChecksum = s.receivedChecksum := rfl
@[simp] theorem State.setInputs_initDone (s : State) (cs : List Cycle) : (s.setInputs cs).initDone = s.initDone := rfl
@[simp] theorem State.setInputs_inputs (s : State) (cs : List Cycle) : (s.setInputs cs).inputs = cs := rfl
@[simp] theorem State.setInputs_observed (s : State) (cs : List Cycle) : (s.setInputs cs).observed = s.observed := rfl

/-! ### record -/

@[simp] theorem State.record_state (s : State) (o : Observation) : (s.record o).state = s.state := rfl
@[simp] theorem State.record_payload (s : State) (o : Observation) : (s.record o).payload = s.payload := rfl
@[simp] theorem State.record_declaredLength (s : State) (o : Observation) : (s.record o).declaredLength = s.declaredLength := rfl
@[simp] theorem State.record_receivedCount (s : State) (o : Observation) : (s.record o).receivedCount = s.receivedCount := rfl
@[simp] theorem State.record_computedChecksum (s : State) (o : Observation) : (s.record o).computedChecksum = s.computedChecksum := rfl
@[simp] theorem State.record_receivedChecksum (s : State) (o : Observation) : (s.record o).receivedChecksum = s.receivedChecksum := rfl
@[simp] theorem State.record_initDone (s : State) (o : Observation) : (s.record o).initDone = s.initDone := rfl
@[simp] theorem State.record_inputs (s : State) (o : Observation) : (s.record o).inputs = s.inputs := rfl
@[simp] theorem State.record_observed (s : State) (o : Observation) : (s.record o).observed = o :: s.observed := rfl

end Sys2Proof.Machine
end

