-- ==== Sys2Proof/Laws/Memory.lean ====
section
/-! SUPPORT. The payload buffer: a read after a write, and that a write inside the buffer keeps the canonical form. -/

namespace Sys2Proof.Machine

@[simp] theorem Memory.read_nil (a : Nat) : Memory.read [] a = none := rfl

@[simp] theorem Memory.read_cons (x : Nat) (y : Byte) (m : Memory) (a : Nat) :
    Memory.read ((x, y) :: m) a = if x = a then some y else Memory.read m a := rfl

theorem Memory.read_write_same (m : Memory) (a : Nat) (b : Byte) : Memory.read (Memory.write m a b) a = some b := by
  induction m with
  | nil => simp [Memory.write]
  | cons c m ih =>
    obtain ⟨x, y⟩ := c
    unfold Memory.write
    split
    · simp
    · split
      · simp
      · rename_i h; simp [h, ih]

theorem Memory.read_write_other (m : Memory) {a a' : Nat} (b : Byte) (h : a' ≠ a) :
    Memory.read (Memory.write m a b) a' = Memory.read m a' := by
  have h' : a ≠ a' := fun e => h e.symm
  induction m with
  | nil => simp [Memory.write, h']
  | cons c m ih =>
    obtain ⟨x, y⟩ := c
    unfold Memory.write
    split
    · simp [h']
    · split
      · rename_i hx; subst hx; simp [h']
      · simp [ih]

theorem Memory.read_write (m : Memory) (a a' : Nat) (b : Byte) :
    Memory.read (Memory.write m a b) a' = if a' = a then some b else Memory.read m a' := by
  split
  · rename_i h; subst h; exact Memory.read_write_same ..
  · rename_i h; exact Memory.read_write_other _ _ h

/-- A cell of the buffer after a write is the written one or one that was there. -/
theorem Memory.mem_write {m : Memory} {a : Nat} {b : Byte} {x : Host.Cell} (h : x ∈ Memory.write m a b) :
    x = (a, b) ∨ x ∈ m := by
  induction m with
  | nil => simpa [Memory.write] using h
  | cons d m ih =>
    obtain ⟨x, y⟩ := d
    unfold Memory.write at h
    split at h
    · simpa using h
    · split at h
      · rcases List.mem_cons.1 h with h | h
        · exact .inl h
        · exact .inr (List.mem_cons_of_mem _ h)
      · rcases List.mem_cons.1 h with h | h
        · exact .inr (h ▸ List.mem_cons_self)
        · rcases ih h with h | h
          · exact .inl h
          · exact .inr (List.mem_cons_of_mem _ h)

/-- A write inside the buffer keeps the canonical form. -/
theorem Memory.wf_write {c : Config.Params} {m : Memory} (hm : Memory.wf m c) {a : Nat} (ha : a < c.maxPayload) (b : Byte) :
    Memory.wf (Memory.write m a b) c := by
  refine ⟨?_, fun d hd => ?_⟩
  · have hs := hm.1
    clear hm
    induction m with
    | nil => simp [Memory.write]
    | cons d m ih =>
      obtain ⟨x, y⟩ := d
      obtain ⟨hx, hm⟩ := List.pairwise_cons.1 hs
      unfold Memory.write
      split
      · rename_i h
        refine List.pairwise_cons.2 ⟨fun c hc => ?_, hs⟩
        rcases List.mem_cons.1 hc with hc | hc
        · subst hc; exact h
        · exact Nat.lt_trans h (hx c hc)
      · split
        · rename_i h
          exact List.pairwise_cons.2 ⟨fun c hc => h ▸ hx c hc, hm⟩
        · rename_i h h'
          refine List.pairwise_cons.2 ⟨fun c hc => ?_, ih hm⟩
          rcases Memory.mem_write hc with hc | hc
          · subst hc; show x < a; omega
          · exact hx c hc
  · rcases Memory.mem_write hd with h | h
    · subst h; exact ha
    · exact hm.2 d h

/-- Reset's buffer has the canonical form. -/
theorem Memory.wf_reset (c : Config.Params) : Memory.wf State.reset.payload c :=
  ⟨List.Pairwise.nil, fun _ h => absurd h List.not_mem_nil⟩

/-- A cell outside the buffer is never listed. -/
theorem Memory.read_none_of_wf {c : Config.Params} {m : Memory} (hm : Memory.wf m c) {a : Nat} (ha : c.maxPayload ≤ a) :
    Memory.read m a = none := by
  have h := hm.2
  clear hm
  induction m with
  | nil => rfl
  | cons d m ih =>
    obtain ⟨x, y⟩ := d
    have hx : x < c.maxPayload := h _ List.mem_cons_self
    rw [Memory.read_cons, if_neg (by omega)]
    exact ih fun d hd => h d (List.mem_cons_of_mem _ hd)

/-- A store answers a next state exactly inside the buffer. -/
theorem Ops.memWrite_next {c : Config.Params} {s t : State} {i : Nat} {v : Byte} :
    Ops.memWrite s i v c = .next t ↔ i < c.maxPayload ∧ t = s.setPayload (Memory.write s.payload i v) := by
  unfold Ops.memWrite
  split <;> simp [*, eq_comm]

end Sys2Proof.Machine
end

