-- ==== Sys2Proof/Laws/Operands.lean ====
section
/-! SUPPORT. The payload view, the XOR of a sequence, and the phase codes. -/

namespace Sys2Proof.Machine

@[simp] theorem xorBytes_nil : xorBytes [] = 0 := rfl

@[simp] theorem xorBytes_cons (b : Byte) (bs : List Byte) : xorBytes (b :: bs) = b ^^^ xorBytes bs := rfl

@[simp] theorem xorBytes_append (bs cs : List Byte) : xorBytes (bs ++ cs) = xorBytes bs ^^^ xorBytes cs := by
  induction bs with
  | nil => simp
  | cons b bs ih => simp [ih, BitVec.xor_assoc]

@[simp] theorem Phase.ofCode_code (p : Phase) : Phase.ofCode p.code = p := by cases p <;> rfl

@[simp] theorem Phase.code_ofCode (c : BitVec 3) : (Phase.ofCode c).code = c := by revert c; decide

@[simp] theorem State.payloadView_length (s : State) : s.payloadView.length = s.receivedCount.toNat := by
  simp [State.payloadView]

/-- The view reads only the count and the cells below it. -/
theorem State.payloadView_congr {s t : State} (hc : s.receivedCount = t.receivedCount)
    (hp : ∀ i < t.receivedCount.toNat, s.payloadByte i = t.payloadByte i) : s.payloadView = t.payloadView := by
  unfold State.payloadView
  rw [hc]
  exact List.map_congr_left fun i hi => hp i (List.mem_range.1 hi)

/-- A state with the same cells and count has the same view. -/
theorem State.payloadView_eq {s t : State} (hc : s.receivedCount = t.receivedCount) (hp : s.payload = t.payload) :
    s.payloadView = t.payloadView :=
  State.payloadView_congr hc fun i _ => by simp [State.payloadByte, hp]

/-- With a count of 0 the view is empty. -/
theorem State.payloadView_of_zero {s : State} (h : s.receivedCount = 0) : s.payloadView = [] := by
  simp [State.payloadView, h]

/-- The view after a byte is appended at the old count and the count goes up by 1 without wrapping. -/
theorem State.payloadView_append {s t : State} {b : Byte} (hlt : s.receivedCount.toNat < 255)
    (hc : t.receivedCount = s.receivedCount + 1)
    (hp : t.payload = Memory.write s.payload s.receivedCount.toNat b) : t.payloadView = s.payloadView ++ [b] := by
  have hn : t.receivedCount.toNat = s.receivedCount.toNat + 1 := by rw [hc]; bv_omega
  unfold State.payloadView
  rw [hn, List.range_succ, List.map_append]
  congr 1
  · refine List.map_congr_left fun i hi => ?_
    have : i ≠ s.receivedCount.toNat := Nat.ne_of_lt (List.mem_range.1 hi)
    simp [State.payloadByte, hp, Memory.read_write_other _ _ this]
  · simp [State.payloadByte, hp, Memory.read_write_same]

end Sys2Proof.Machine
end

