-- ==== Sys2Proof/Laws/Rows.lean ====
section
/-! SUPPORT. What the frame of the consume transitions and the append can do. -/

namespace Sys2Proof.Machine

/-- In a legal state the store address of AccumulatingPayload lies inside the buffer (20_memory R53). -/
theorem State.Legal.storeAddress_lt {c : Config.Params} {s : State} (h : s.Legal c) (hp : s.state = .accumulatingPayload) :
    s.storeAddress < c.maxPayload := by
  obtain ⟨h1, -, -, h4, -⟩ := h
  exact Nat.lt_of_lt_of_le (h4 hp).2 h1.2

/-- The frame stops exactly outside the invariants. -/
theorem Ops.unspecifiedState_none {c : Config.Params} {s : State} : Ops.unspecifiedState s c = none ↔ s.Legal c := by
  unfold Ops.unspecifiedState
  constructor
  · intro h
    split at h
    · cases h
    · split at h
      · assumption
      · cases h
  · intro h
    rw [if_neg, if_pos h]
    rintro ⟨hp, hle⟩
    exact absurd (h.storeAddress_lt hp) (by omega)

/-- A consume transition answers a next state only after INIT, in its own row and from a legal state, and then it is its
effect's. -/
theorem Ops.consumeRow_next {c : Config.Params} {sel : Bool} {s t : State} {e : State → Result} :
    Ops.consumeRow sel s e c = .next t ↔ s.initDone = true ∧ sel = true ∧ s.Legal c ∧ e s = .next t := by
  unfold Ops.consumeRow
  rw [← Ops.unspecifiedState_none]
  cases s.initDone <;> cases sel <;> cases Ops.unspecifiedState s c <;> simp

/-- After INIT, in its row and from a legal state, a consume transition is its effect. -/
theorem Ops.consumeRow_eq {c : Config.Params} {sel : Bool} {s : State} {e : State → Result} (hi : s.initDone = true)
    (hs : sel = true) (hl : s.Legal c) : Ops.consumeRow sel s e c = e s := by
  unfold Ops.consumeRow
  rw [if_neg (by simp [hi]), if_neg (by simp [hs]), Ops.unspecifiedState_none.2 hl]

/-- What an append answers: the cell at the old count, the running XOR, the count, the phase and the result. -/
theorem Ops.append_next {c : Config.Params} {b : Byte} {p : Phase} {s t : State} :
    Ops.append b p s c = .next t ↔ s.storeAddress < c.maxPayload ∧
      t = { s with
        payload := Memory.write s.payload s.storeAddress b
        computedChecksum := s.computedChecksum ^^^ b
        receivedCount := s.receivedCount + 1
        state := p
        observed := .noFrame :: s.observed } := by
  unfold Ops.append Ops.memWrite
  by_cases h : s.storeAddress < c.maxPayload
  · simp only [h, if_true, true_and]
    constructor
    · intro e; cases e; rfl
    · rintro rfl; rfl
  · simp [h]

end Sys2Proof.Machine
end

