-- ==== Sys2Proof/Laws/Exec.lean ====
section
/-! SUPPORT. The inversion of exec, in this hardware's build and in any other: all a completed instruction can have done, one
named case a row of the map. -/

namespace Sys2Proof.Machine

/-- What instruction i can make of s when it completes in build c. The cases of rows 3 to 13 carry that INIT has been performed, the
invariants, and what selects the row. -/
inductive Effect (c : Config.Params) (s : State) : Instr → State → Prop where
  | init : Effect c s .init (Ops.initialize s)
  | idle : Effect c s .idle s
  | asStart (hi : s.initDone = true) (hl : s.Legal c) (hp : s.state = .awaitStart) :
      Effect c s .asStart (Ops.noFrame (Ops.beginAttempt s))
  | asSkip (b : Byte) (hi : s.initDone = true) (hl : s.Legal c) (hp : s.state = .awaitStart)
      (hb : b ≠ Config.startMarker) : Effect c s (.asSkip b) (Ops.noFrame s)
  | alOver (l : Byte) (hi : s.initDone = true) (hl : s.Legal c) (hp : s.state = .awaitLength)
      (hb : c.maxPayload < l.toNat) : Effect c s (.alOver l) (Ops.reject s)
  | alZero (hi : s.initDone = true) (hl : s.Legal c) (hp : s.state = .awaitLength) :
      Effect c s .alZero (Ops.noFrame ((s.setDeclaredLength 0).goto .awaitChecksum))
  | alLen (l : Byte) (hi : s.initDone = true) (hl : s.Legal c) (hp : s.state = .awaitLength) (hb : 1 ≤ l.toNat)
      (hb' : l.toNat ≤ c.maxPayload) :
      Effect c s (.alLen l) (Ops.noFrame ((s.setDeclaredLength l).goto .accumulatingPayload))
  | apMore (b : Byte) (hi : s.initDone = true) (hl : s.Legal c) (hp : s.state = .accumulatingPayload)
      (hc : s.receivedCount.toNat + 1 ≠ s.declaredLength.toNat) :
      Effect c s (.apMore b) { s with
        payload := Memory.write s.payload s.storeAddress b
        computedChecksum := s.computedChecksum ^^^ b
        receivedCount := s.receivedCount + 1
        state := .accumulatingPayload
        observed := .noFrame :: s.observed }
  | apLast (b : Byte) (hi : s.initDone = true) (hl : s.Legal c) (hp : s.state = .accumulatingPayload)
      (hc : s.receivedCount.toNat + 1 = s.declaredLength.toNat) :
      Effect c s (.apLast b) { s with
        payload := Memory.write s.payload s.storeAddress b
        computedChecksum := s.computedChecksum ^^^ b
        receivedCount := s.receivedCount + 1
        state := .awaitChecksum
        observed := .noFrame :: s.observed }
  | acChk (b : Byte) (hi : s.initDone = true) (hl : s.Legal c) (hp : s.state = .awaitChecksum) :
      Effect c s (.acChk b) (Ops.noFrame ((s.setReceivedChecksum b).goto .awaitEnd))
  | aeOk (hi : s.initDone = true) (hl : s.Legal c) (hp : s.state = .awaitEnd)
      (hc : s.computedChecksum = s.receivedChecksum) : Effect c s .aeOk ((Ops.emitFrame s).goto .awaitStart)
  | aeBadchk (hi : s.initDone = true) (hl : s.Legal c) (hp : s.state = .awaitEnd)
      (hc : s.computedChecksum ≠ s.receivedChecksum) : Effect c s .aeBadchk (Ops.reject s)
  | aeBadend (b : Byte) (hi : s.initDone = true) (hl : s.Legal c) (hp : s.state = .awaitEnd)
      (hb : b ≠ Config.endMarker) : Effect c s (.aeBadend b) (Ops.reject s)

/-- This hardware's meanings are those of its build. -/
theorem exec_eq_execAt (i : Instr) (s : State) : exec i s = execAt Config.hardware i s := by cases i <;> rfl

/-- This hardware's step is that of its build. -/
theorem step_eq_stepAt (s : State) : step s = stepAt Config.hardware s := exec_eq_execAt ..

/-- A completed instruction of build c did what its case says. -/
theorem execAt_next {c : Config.Params} {i : Instr} {s t : State} (h : execAt c i s = .next t) : Effect c s i t := by
  cases i <;> simp only [execAt, execInit, execIdle, execAsStart, execAsSkip, execAlOver, execAlZero, execAlLen,
    execApMore, execApLast, execAcChk, execAeOk, execAeBadchk, execAeBadend, execRsvdState5, execRsvdState67,
    Ops.consumeRow_next, Ops.append_next, Instr.wellFormed, Instr.admits, State.guards, Flags.lastByte,
    Flags.checksumOk, Bool.and_eq_true, beq_iff_eq, bne_iff_ne, decide_eq_true_eq, Bool.not_eq_true',
    decide_eq_false_iff_not, reduceCtorEq] at h
  case init => cases h; exact .init
  case idle => cases h; exact .idle
  case asStart => obtain ⟨hi, hp, hl, he⟩ := h; cases he; exact .asStart hi hl hp
  case asSkip b => obtain ⟨hi, ⟨hp, hb⟩, hl, he⟩ := h; cases he; exact .asSkip b hi hl hp hb
  case alOver l => obtain ⟨hi, ⟨hp, hb⟩, hl, he⟩ := h; cases he; exact .alOver l hi hl hp hb
  case alZero => obtain ⟨hi, hp, hl, he⟩ := h; cases he; exact .alZero hi hl hp
  case alLen l => obtain ⟨hi, ⟨hp, hb, hb'⟩, hl, he⟩ := h; cases he; exact .alLen l hi hl hp hb hb'
  case apMore b => obtain ⟨hi, ⟨hp, hc⟩, hl, -, he⟩ := h; cases he; exact .apMore b hi hl hp hc
  case apLast b => obtain ⟨hi, ⟨hp, hc⟩, hl, -, he⟩ := h; cases he; exact .apLast b hi hl hp hc
  case acChk b => obtain ⟨hi, hp, hl, he⟩ := h; cases he; exact .acChk b hi hl hp
  case aeOk => obtain ⟨hi, ⟨hp, hc⟩, hl, he⟩ := h; cases he; exact .aeOk hi hl hp hc
  case aeBadchk => obtain ⟨hi, ⟨hp, hc⟩, hl, he⟩ := h; cases he; exact .aeBadchk hi hl hp hc
  case aeBadend b => obtain ⟨hi, ⟨hp, hb⟩, hl, he⟩ := h; cases he; exact .aeBadend b hi hl hp hb

/-- A completed instruction of this hardware did what its case says. -/
theorem exec_next {i : Instr} {s t : State} (h : exec i s = .next t) : Effect Config.hardware s i t :=
  execAt_next (exec_eq_execAt i s ▸ h)

end Sys2Proof.Machine
end

