-- ==== Sys2Proof/Laws/PerInstr.lean ====
section
/-! SUPPORT. Per instruction: the encoding of an instruction matches its row of the map, bits and byte guard (30_encoding R80). -/

namespace Sys2Proof.Laws.Encoding

/-- In every build, the step word of a well-formed instruction fits its row: the fixed bits under the row's mask, and the row's guard for every
register contents that admits the row. -/
def Statement (i : Instr) : Prop :=
  ∀ c : Config.Params, i.wellFormed c = true → encode i &&& (i.row c).mask = (i.row c).pattern ∧
    ∀ g, i.admits g = true → (i.row c).guard (StepWord.inByte (encode i)) g = true

theorem init : Statement .init := fun _ _ => ⟨by dsimp only [Instr.row]; decide, fun _ _ => rfl⟩

theorem idle : Statement .idle := fun _ _ => ⟨by dsimp only [Instr.row]; decide, fun _ _ => rfl⟩

theorem asStart : Statement .asStart := fun _ _ => ⟨by dsimp only [Instr.row]; decide, fun _ _ => rfl⟩

theorem asSkip (b : Byte) : Statement (.asSkip b) := fun c h =>
  ⟨by clear h; dsimp only [Instr.row]; revert b; decide, fun _ _ => by simpa [Instr.wellFormed, Instr.row, encode, Config.startMarker] using h⟩

theorem alOver (l : Byte) : Statement (.alOver l) := fun c h =>
  ⟨by clear h; dsimp only [Instr.row]; revert l; decide, fun _ _ => by simpa [Instr.wellFormed, Instr.row, encode] using h⟩

theorem alZero : Statement .alZero := fun _ _ => ⟨by dsimp only [Instr.row]; decide, fun _ _ => rfl⟩

theorem alLen (l : Byte) : Statement (.alLen l) := fun c h =>
  ⟨by clear h; dsimp only [Instr.row]; revert l; decide, fun _ _ => by simpa [Instr.wellFormed, Instr.row, encode] using h⟩

theorem apMore (b : Byte) : Statement (.apMore b) := fun c h =>
  ⟨by clear h; dsimp only [Instr.row]; revert b; decide, fun _ hg => hg⟩

theorem apLast (b : Byte) : Statement (.apLast b) := fun c h =>
  ⟨by clear h; dsimp only [Instr.row]; revert b; decide, fun _ hg => hg⟩

theorem acChk (b : Byte) : Statement (.acChk b) := fun c h =>
  ⟨by clear h; dsimp only [Instr.row]; revert b; decide, fun _ _ => rfl⟩

theorem aeOk : Statement .aeOk := fun _ _ => ⟨by dsimp only [Instr.row]; decide, fun _ hg => hg⟩

theorem aeBadchk : Statement .aeBadchk := fun _ _ => ⟨by dsimp only [Instr.row]; decide, fun _ hg => hg⟩

theorem aeBadend (b : Byte) : Statement (.aeBadend b) := fun c h =>
  ⟨by clear h; dsimp only [Instr.row]; revert b; decide, fun _ _ => by simpa [Instr.wellFormed, Instr.row, encode, Config.endMarker] using h⟩

theorem rsvdState5 : Statement .rsvdState5 := fun _ _ => ⟨by dsimp only [Instr.row]; decide, fun _ _ => rfl⟩

theorem rsvdState67 : Statement .rsvdState67 := fun _ _ => ⟨by dsimp only [Instr.row]; decide, fun _ _ => rfl⟩

end Sys2Proof.Laws.Encoding
end

