-- ==== Sys2Proof/Laws/Step.lean ====
section
/-! SUPPORT. What the coming cycle's inputs and the phase make of the next instruction, one lemma a case. -/

namespace Sys2Proof.Machine

@[simp] theorem State.takeCycle_inputs (s : State) : s.takeCycle.inputs = s.inputs.tail := rfl

@[simp] theorem State.nextCycle_cons (s : State) (c : Cycle) (cs : List Cycle) (h : s.inputs = c :: cs) :
    s.nextCycle = c := by simp [State.nextCycle, h]

@[simp] theorem State.nextCycle_nil (s : State) (h : s.inputs = []) : s.nextCycle = Cycle.idle := by
  simp [State.nextCycle, h]

@[simp] theorem State.stepWord_rst (s : State) : StepWord.rst s.stepWord = s.nextCycle.rst := by simp [State.stepWord]

@[simp] theorem State.stepWord_inValid (s : State) : StepWord.inValid s.stepWord = s.nextCycle.inValid := by
  simp [State.stepWord]

@[simp] theorem State.stepWord_stateBits (s : State) : StepWord.stateBits s.stepWord = s.state.code := by
  simp [State.stepWord]

@[simp] theorem State.stepWord_inByte (s : State) : StepWord.inByte s.stepWord = s.nextCycle.inByte := by
  simp [State.stepWord]

/-- The instruction a byte selects, by phase (30_encoding R80 rows 3 to 14). -/
def selectedBy (p : Phase) (b : Byte) (g : Guards) (c : Config.Params := Config.hardware) : Instr :=
  match p with
  | .awaitStart => decodeAwaitStart b
  | .awaitLength => decodeAwaitLength b c
  | .accumulatingPayload => decodeAccumulatingPayload b g
  | .awaitChecksum => .acChk b
  | .awaitEnd => decodeAwaitEnd b g
  | .unused5 => .rsvdState5
  | .unused6 => .rsvdState67
  | .unused7 => .rsvdState67

/-- What a step word decodes to, by its fields. -/
theorem decode_pack (c : Config.Params) (r v : Bool) (p : Phase) (b : Byte) (g : Guards) :
    decode (StepWord.pack r v p.code b) g c = if r then .init else if v then selectedBy p b g c else .idle := by
  unfold decode
  simp only [StepWord.rst_pack, StepWord.inValid_pack, StepWord.stateBits_pack, StepWord.inByte_pack]
  cases r <;> cases v <;> cases p <;> rfl

/-- A cycle with rst is INIT, whatever else is offered (30_encoding R80 row 1). -/
theorem State.fetch_of_rst {c : Config.Params} {s : State} (h : s.nextCycle.rst = true) : s.fetch c = .init := by
  simp [State.fetch, decode, h]

/-- A cycle without a byte is IDLE (30_encoding R80 row 2). -/
theorem State.fetch_of_idle {c : Config.Params} {s : State} (h : s.nextCycle.rst = false) (hv : s.nextCycle.inValid = false) :
    s.fetch c = .idle := by
  simp [State.fetch, decode, h, hv]

/-- A cycle with a byte selects by phase. -/
theorem State.fetch_of_byte {c : Config.Params} {s : State} (h : s.nextCycle.rst = false) (hv : s.nextCycle.inValid = true) :
    s.fetch c = selectedBy s.state s.nextCycle.inByte s.guards c := by
  unfold State.fetch State.stepWord
  rw [decode_pack, h, hv]
  rfl

/-- The cycle's inputs are all that `takeCycle` changes, so a state is as legal after it as before. -/
theorem State.takeCycle_legal {c : Config.Params} {s : State} : s.takeCycle.Legal c ↔ s.Legal c := Iff.rfl

end Sys2Proof.Machine
end

