-- ==== Sys2Proof/Tests/Slice0.lean ====
section
/-! SUPPORT. The model's own tests: words written out bit by bit from the spec, single steps of the spec's vectors, and for every
statement with hypotheses a state that meets them. Expected values come from 95_test_vectors.md and the rules, never from a run
of the model. -/

namespace Sys2Proof.Tests

open Sys2Proof.Machine Sys2Proof.Safety

/-! ## Helpers -/

/-- The next state of an outcome, if it is one. -/
def nextOf : Result → Option State
  | .next t => some t
  | .fault _ => none
  | .refused _ => none

/-- The fault of an outcome, if it is one. -/
def faultOf : Result → Option Fault
  | .next _ => none
  | .fault f => some f
  | .refused _ => none

/-- The refusal of an outcome, if it is one. -/
def refusalOf : Result → Option Refusal
  | .next _ => none
  | .fault _ => none
  | .refused r => some r

/-- A state after INIT with the given phase, cells and registers (declared_length, received_count, computed_checksum,
received_checksum: the columns of 95_test_vectors). -/
def sample (p : Phase) (m : Memory) (dl rc cc rk : Byte) : State :=
  { state := p, payload := m, declaredLength := dl, receivedCount := rc, computedChecksum := cc, receivedChecksum := rk
    initDone := true, inputs := [], observed := [] }

/-- s with byte b offered in the coming cycle. -/
def offered (b : Byte) (s : State) : State := { s with inputs := [Cycle.ofByte b] }

/-- s with rst in the coming cycle, a byte offered beside it. -/
def reset (b : Byte) (s : State) : State := { s with inputs := [{ rst := true, inValid := true, inByte := b }] }

/-- s with nothing offered in the coming cycle. -/
def idling (s : State) : State := { s with inputs := [Cycle.idle] }

/-- What a test looks at: the phase and the four registers. -/
def regs (r : Result) : Option (Phase × Byte × Byte × Byte × Byte) :=
  (nextOf r).map fun t => (t.state, t.declaredLength, t.receivedCount, t.computedChecksum, t.receivedChecksum)

/-- The cells of an outcome's state. -/
def cells (r : Result) : Option Memory := (nextOf r).map fun t => t.payload

/-- The record of an outcome's state. -/
def record (r : Result) : Option (List Observation) := (nextOf r).map fun t => t.observed

/-- The instruction whose outcome is a next state. -/
def completes (i : Instr) (s : State) : Bool := (nextOf (exec i s)).isSome

theorem exists_of_completes {i : Instr} {s : State} (h : completes i s = true) : ∃ t, exec i s = .next t := by
  unfold completes at h
  cases hr : exec i s with
  | next t => exact ⟨t, rfl⟩
  | fault f => rw [hr] at h; cases h
  | refused r => rw [hr] at h; cases h

/-- AwaitStart after INIT. -/
def sStart : State := sample .awaitStart [] 0 0 0 0
/-- Vector S1 after step 1. -/
def sLen : State := sample .awaitLength [] 0 0 0 0
/-- Vector S1 after step 2. -/
def sPay0 : State := sample .accumulatingPayload [] 3 0 0 0
/-- Vector S1 after step 3. -/
def sPay1 : State := sample .accumulatingPayload [(0, 0x4F)] 3 1 0x4F 0
/-- Vector S1 after step 4. -/
def sPay2 : State := sample .accumulatingPayload [(0, 0x4F), (1, 0x4C)] 3 2 0x03 0
/-- Vector S1 after step 5. -/
def sChk : State := sample .awaitChecksum [(0, 0x4F), (1, 0x4C), (2, 0x41)] 3 3 0x42 0
/-- Vector S1 after step 6. -/
def sEnd : State := sample .awaitEnd [(0, 0x4F), (1, 0x4C), (2, 0x41)] 3 3 0x42 0x42
/-- Vector S1 after step 7. -/
def sDone : State := sample .awaitStart [(0, 0x4F), (1, 0x4C), (2, 0x41)] 3 3 0x42 0x42
/-- The stream of 45 R152's example after its sixth byte: the checksums differ. -/
def sBad : State := sample .awaitEnd [(0, 0x10), (1, 0x20)] 2 2 0x30 0x31
/-- Vector S9 after step 11: the last cell is still to come. -/
def sFull9 : State :=
  sample .accumulatingPayload
    [(0, 0x01), (1, 0x02), (2, 0x03), (3, 0x04), (4, 0x05), (5, 0x06), (6, 0x07), (7, 0x08), (8, 0x09)] 10 9 0x01 0
/-- A power-up with an unused phase pattern, before INIT. -/
def sPower : State := { sample .unused6 [] 0xFF 0xFF 0xAA 0x55 with initDone := false }
/-- The smallest build and the largest (00_scope R7). -/
def build1 : Config.Params := { maxPayload := 1, one_le := by decide, le_255 := by decide }
def build255 : Config.Params := { maxPayload := 255, one_le := by decide, le_255 := by decide }
/-- A state outside the invariants: a count of 10 in AccumulatingPayload (93 U1). -/
def sOver : State := sample .accumulatingPayload [] 10 10 0 0

/-! ## Well-formedness: an ill-formed term for each check -/

theorem test_wellFormed_refuses :
    (Instr.asSkip 0x02).wellFormed = false ∧ (Instr.alOver 0x0A).wellFormed = false ∧
      (Instr.alLen 0x00).wellFormed = false ∧ (Instr.alLen 0x0B).wellFormed = false ∧
      (Instr.aeBadend 0x03).wellFormed = false := by decide

theorem test_wellFormed_accepts :
    (Instr.asSkip 0x03).wellFormed = true ∧ (Instr.alOver 0x0B).wellFormed = true ∧
      (Instr.alLen 0x01).wellFormed = true ∧ (Instr.alLen 0x0A).wellFormed = true ∧
      (Instr.aeBadend 0x02).wellFormed = true := by decide

/-! ## Decoding: words written out from R78 to R80 as rst, in_valid, state (3 bits), in_byte (8 bits) -/

/-- 1 x xxx xxxxxxxx -/
theorem test_decode_init : decode 0b1110000000011#13 ⟨false, true⟩ = .init := by decide
/-- 0 0 xxx xxxxxxxx -/
theorem test_decode_idle : decode 0b0011111111111#13 ⟨false, true⟩ = .idle := by decide
/-- 0 1 000 00000010 -/
theorem test_decode_asStart : decode 0b0100000000010#13 ⟨false, true⟩ = .asStart := by decide
/-- 0 1 000 10101010 -/
theorem test_decode_asSkip : decode 0b0100010101010#13 ⟨false, true⟩ = .asSkip 0xAA := by decide
/-- 0 1 001 00001011 and 0 1 001 11111111: the guard is L > 10. -/
theorem test_decode_alOver :
    decode 0b0100100001011#13 ⟨false, true⟩ = .alOver 0x0B ∧
      decode 0b0100111111111#13 ⟨false, true⟩ = .alOver 0xFF := by decide
/-- 0 1 001 00000000 -/
theorem test_decode_alZero : decode 0b0100100000000#13 ⟨false, true⟩ = .alZero := by decide
/-- 0 1 001 00000010 (the length 2, no marker) and 0 1 001 00001010. -/
theorem test_decode_alLen :
    decode 0b0100100000010#13 ⟨false, true⟩ = .alLen 0x02 ∧
      decode 0b0100100001010#13 ⟨false, true⟩ = .alLen 0x0A := by decide
/-- 0 1 010 01001111, the count not complete. -/
theorem test_decode_apMore : decode 0b0101001001111#13 ⟨false, true⟩ = .apMore 0x4F := by decide
/-- 0 1 010 01000001, the count complete. -/
theorem test_decode_apLast : decode 0b0101001000001#13 ⟨true, true⟩ = .apLast 0x41 := by decide
/-- 0 1 011 01000010 -/
theorem test_decode_acChk : decode 0b0101101000010#13 ⟨false, false⟩ = .acChk 0x42 := by decide
/-- 0 1 100 00000011, checksums equal. -/
theorem test_decode_aeOk : decode 0b0110000000011#13 ⟨false, true⟩ = .aeOk := by decide
/-- 0 1 100 00000011, checksums different. -/
theorem test_decode_aeBadchk : decode 0b0110000000011#13 ⟨false, false⟩ = .aeBadchk := by decide
/-- 0 1 100 00000010, whatever the checksums. -/
theorem test_decode_aeBadend :
    decode 0b0110000000010#13 ⟨false, true⟩ = .aeBadend 0x02 ∧
      decode 0b0110000000010#13 ⟨false, false⟩ = .aeBadend 0x02 := by decide
/-- 0 1 101 00000011 -/
theorem test_decode_rsvdState5 : decode 0b0110100000011#13 ⟨false, true⟩ = .rsvdState5 := by decide
/-- 0 1 110 00000000 and 0 1 111 00000000. -/
theorem test_decode_rsvdState67 :
    decode 0b0111000000000#13 ⟨false, true⟩ = .rsvdState67 ∧
      decode 0b0111100000000#13 ⟨false, true⟩ = .rsvdState67 := by decide

/-- 8192 has a bit above bit 12. -/
theorem test_decodeNat_rejects_wide :
    decodeNat 8192 resetGuards = .error .widerThanStepWord ∧ decodeTableWord 16 8192 = none := by
  exact ⟨rfl, by decide⟩

/-- Step words printed in 95_test_vectors, encoded. -/
theorem test_encode_printed :
    encode .asStart = 0x0802#13 ∧ encode (.asSkip 0xAA) = 0x08AA#13 ∧ encode (.alOver 0xFF) = 0x09FF#13 ∧
      encode .alZero = 0x0900#13 ∧ encode (.alLen 0x0A) = 0x090A#13 ∧ encode (.apMore 0x4F) = 0x0A4F#13 ∧
      encode (.apLast 0x41) = 0x0A41#13 ∧ encode (.acChk 0x42) = 0x0B42#13 ∧ encode .aeOk = 0x0C03#13 ∧
      encode .aeBadchk = 0x0C03#13 ∧ encode (.aeBadend 0x02) = 0x0C02#13 := by decide

/-! ## The payload buffer -/

theorem test_memory_keeps_order :
    Memory.write (Memory.write (Memory.write [] 9 0xAA) 0 0x00) 9 0x55 = [(0, 0x00), (9, 0x55)] := by decide

theorem test_memory_wf :
    Memory.wf [(0, 0x4F), (9, 0x00)] ∧ ¬ Memory.wf [(10, 0x4F)] ∧ ¬ Memory.wf [(1, 0x4F), (1, 0x00)] ∧
      ¬ Memory.wf [(1, 0x4F), (0, 0x00)] := by decide

/-- A cell nothing has written has no listed value; a written zero has. -/
theorem test_memory_unlisted : Memory.read [(3, 0x00)] 3 = some 0x00 ∧ Memory.read [(3, 0x00)] 4 = none := by decide

/-! ## One step each, from the vectors -/

/-- 46 R160's example: INIT in the middle of `02 03 4F`; the cell stays, the byte offered beside rst is dropped. -/
theorem test_init_mid_frame :
    regs (step (reset 0x4C sPay1)) = some (.awaitStart, 0, 0, 0, 0) ∧
      cells (step (reset 0x4C sPay1)) = some [(0, 0x4F)] ∧ record (step (reset 0x4C sPay1)) = some [] := by decide

/-- 46 R160 (b): the only way out of an unused pattern; 10_state R33. -/
theorem test_init_power_up : regs (step (reset 0x03 sPower)) = some (.awaitStart, 0, 0, 0, 0) := by decide

/-- Vector S14 step 2; 46 R162: IDLE holds an unused pattern. -/
theorem test_idle_holds :
    nextOf (step (idling sLen)) = some sLen ∧ nextOf (step (idling sPower)) = some sPower := by decide

/-- Vector S1 step 1. -/
theorem test_asStart_first : regs (step (offered 0x02 sStart)) = some (.awaitLength, 0, 0, 0, 0) := by decide

/-- Vector S11 step 6's rule: three registers go to 0, received_checksum and the cells stay. -/
theorem test_asStart_keeps_stale :
    regs (step (offered 0x02 sDone)) = some (.awaitLength, 0, 0, 0, 0x42) ∧
      cells (step (offered 0x02 sDone)) = some [(0, 0x4F), (1, 0x4C), (2, 0x41)] := by decide

/-- Vector S2 step 1. -/
theorem test_asSkip_garbage :
    nextOf (step (offered 0xAA sStart)) = some { sStart with observed := [.noFrame] } := by decide

/-- 41 R111 (a): 0x03 is garbage, and the registers of a frame just done stay. -/
theorem test_asSkip_end_marker : regs (step (offered 0x03 sDone)) = some (.awaitStart, 3, 3, 0x42, 0x42) := by decide

/-- 42 R121's example and (e): 0x0B is rejected, declared_length stays 0. -/
theorem test_alOver_boundary : regs (step (offered 0x0B sLen)) = some (.awaitStart, 0, 0, 0, 0) := by decide

/-- Vector S15 step 2: 0xFF is 255, no negative number. -/
theorem test_alOver_unsigned :
    regs (step (offered 0xFF sLen)) = some (.awaitStart, 0, 0, 0, 0) ∧
      record (step (offered 0xFF sLen)) = some [.noFrame] := by decide

/-- 42 R122's example. -/
theorem test_alZero : regs (step (offered 0x00 sLen)) = some (.awaitChecksum, 0, 0, 0, 0) := by decide

/-- 42 R123's example. -/
theorem test_alLen : regs (step (offered 0x03 sLen)) = some (.accumulatingPayload, 3, 0, 0, 0) := by decide

/-- Vector S9 step 2: 0x0A fits exactly. -/
theorem test_alLen_boundary : regs (step (offered 0x0A sLen)) = some (.accumulatingPayload, 10, 0, 0, 0) := by decide

/-- 43 R131's example, both bytes. -/
theorem test_apMore_first :
    regs (step (offered 0x4F sPay0)) = some (.accumulatingPayload, 3, 1, 0x4F, 0) ∧
      cells (step (offered 0x4F sPay0)) = some [(0, 0x4F)] := by decide
theorem test_apMore_second :
    regs (step (offered 0x4C sPay1)) = some (.accumulatingPayload, 3, 2, 0x03, 0) ∧
      cells (step (offered 0x4C sPay1)) = some [(0, 0x4F), (1, 0x4C)] := by decide

/-- 43 R132's example. -/
theorem test_apLast :
    regs (step (offered 0x41 sPay2)) = some (.awaitChecksum, 3, 3, 0x42, 0) ∧
      cells (step (offered 0x41 sPay2)) = some [(0, 0x4F), (1, 0x4C), (2, 0x41)] := by decide

/-- Vector S9 step 12: the last cell, index 9. -/
theorem test_apLast_full :
    regs (step (offered 0x0A sFull9)) = some (.awaitChecksum, 10, 10, 0x0B, 0) ∧
      (nextOf (step (offered 0x0A sFull9))).map (fun t => t.payloadOut 9) = some (some 0x0A) := by decide

/-- 44 R140's example: NoFrame although the checksums agree. -/
theorem test_acChk :
    regs (step (offered 0x42 sChk)) = some (.awaitEnd, 3, 3, 0x42, 0x42) ∧
      record (step (offered 0x42 sChk)) = some [.noFrame] ∧ (offered 0x42 sChk).frameReady = false := by decide

/-- 44 R140 (a): 0x02 is a checksum value here. -/
theorem test_acChk_marker_value : regs (step (offered 0x02 sChk)) = some (.awaitEnd, 3, 3, 0x42, 0x02) := by decide

/-- 00_scope R7, 42 R121 (d), (e): 10 is this hardware's value; with MAX_PAYLOAD = 1 the length 2 is rejected, with 255 no length
is. -/
theorem test_builds_length :
    Config.hardware.maxPayload = 10 ∧ regs (stepAt build1 (offered 0x02 sLen)) = some (.awaitStart, 0, 0, 0, 0) ∧
      regs (stepAt build255 (offered 0xFF sLen)) = some (.accumulatingPayload, 255, 0, 0, 0) := by decide

/-- 00_scope R14: the last cell of the largest build, and the first index outside the smallest. -/
theorem test_builds_store :
    cells (Ops.memWrite sStart 254 0x55 build255) = some [(254, 0x55)] ∧
      faultOf (Ops.memWrite sStart 1 0x55 build1) = some .payloadIndexOutOfRange := by decide

/-- 45 R151's example: FrameReady, view "OLA", length 3. -/
theorem test_aeOk :
    regs (step (offered 0x03 sEnd)) = some (.awaitStart, 3, 3, 0x42, 0x42) ∧
      record (step (offered 0x03 sEnd)) = some [.frameReady [0x4F, 0x4C, 0x41]] ∧
      (offered 0x03 sEnd).frameReady = true := by decide

/-- 46 R160: no frame_ready in a reset cycle that would satisfy AE.OK. -/
theorem test_aeOk_not_under_reset : (reset 0x03 sEnd).frameReady = false ∧ (idling sEnd).frameReady = false := by decide

/-- 45 R152's example: only the phase is written. -/
theorem test_aeBadchk :
    regs (step (offered 0x03 sBad)) = some (.awaitStart, 2, 2, 0x30, 0x31) ∧
      record (step (offered 0x03 sBad)) = some [.noFrame] ∧ (offered 0x03 sBad).frameReady = false := by decide

/-- 45 R153 (a): 0x02 here starts no frame, equal checksums or not. -/
theorem test_aeBadend :
    regs (step (offered 0x02 sEnd)) = some (.awaitStart, 3, 3, 0x42, 0x42) ∧
      record (step (offered 0x02 sEnd)) = some [.noFrame] := by decide
theorem test_aeBadend_both_wrong :
    (offered 0x02 sBad).fetch = .aeBadend 0x02 ∧
      regs (step (offered 0x02 sBad)) = some (.awaitStart, 2, 2, 0x30, 0x31) := by decide

/-- 46 R162: CONSUME with an unused pattern is a fault. -/
theorem test_rsvdState :
    faultOf (step (offered 0x02 (sample .unused5 [] 0 0 0 0))) = some .reservedState ∧
      faultOf (step (offered 0x02 sPower)) = some .reservedState := by decide

/-- 93 U1, 20_memory R53: outside the invariants a byte faults, a store outside the buffer under its own name. -/
theorem test_outside_invariants :
    faultOf (step (offered 0x55 sOver)) = some .payloadIndexOutOfRange ∧
      faultOf (step (offered 0x55 (sample .accumulatingPayload [] 0 0 0 0))) = some .invariantViolated := by decide

/-- 70 R201: a byte before the first INIT. -/
theorem test_before_init :
    refusalOf (step (offered 0x02 { sStart with initDone := false })) = some .consumeBeforeInit := by decide

/-- A word placed at reset is the next step's: each row of the map but those the reset guards shut out. -/
theorem test_placed_words :
    (State.reset.withFetchWord 13 0x1000).fetch = .init ∧ (State.reset.withFetchWord 13 0x0000).fetch = .idle ∧
      (State.reset.withFetchWord 13 0x0802).fetch = .asStart ∧ (State.reset.withFetchWord 13 0x090B).fetch = .alOver 0x0B ∧
      (State.reset.withFetchWord 13 0x0A00).fetch = .apMore 0x00 ∧ (State.reset.withFetchWord 13 0x0B00).fetch = .acChk 0x00 ∧
      (State.reset.withFetchWord 13 0x0C03).fetch = .aeOk ∧ (State.reset.withFetchWord 13 0x0D00).fetch = .rsvdState5 := by
  decide

theorem test_placed_words_run :
    (nextOf (step (State.reset.withFetchWord 13 0x0A00))).isSome ∧ (nextOf (step (State.reset.withFetchWord 13 0x0C03))).isSome ∧
      (nextOf (step (State.reset.withFetchWord 13 0x0B00))).isSome ∧
      (nextOf (step (State.reset.withFetchWord 13 0x0901))).isSome := by decide

/-- From reset with nothing placed the host offers nothing and each step is IDLE (log entry 8). -/
theorem test_reset_step_is_idle : State.reset.fetch = .idle ∧ nextOf (step State.reset) = some State.reset := by decide

/-! ## Witnesses: for every statement with hypotheses, what meets them -/

theorem witness_EncodeDecodeRoundTrip :
    ((Instr.asSkip 0x03).wellFormed = true ∧ (Instr.asSkip 0x03).admits ⟨false, true⟩ = true) ∧
    ((Instr.alOver 0x0B).wellFormed = true ∧ (Instr.alOver 0x0B).admits ⟨false, true⟩ = true) ∧
    ((Instr.alOver 0xFF).wellFormed = true ∧ (Instr.alOver 0xFF).admits ⟨true, false⟩ = true) ∧
    ((Instr.alLen 0x01).wellFormed = true ∧ (Instr.alLen 0x01).admits ⟨false, true⟩ = true) ∧
    ((Instr.alLen 0x0A).wellFormed = true ∧ (Instr.alLen 0x0A).admits ⟨false, true⟩ = true) ∧
    ((Instr.apMore 0xFF).wellFormed = true ∧ (Instr.apMore 0xFF).admits ⟨false, true⟩ = true) ∧
    ((Instr.apLast 0x00).wellFormed = true ∧ (Instr.apLast 0x00).admits ⟨true, true⟩ = true) ∧
    ((Instr.alOver 0x02).wellFormed build1 = true ∧ (Instr.alOver 0x02).admits ⟨false, true⟩ = true) ∧
    ((Instr.alLen 0xFF).wellFormed build255 = true ∧ (Instr.alLen 0xFF).admits ⟨false, true⟩ = true) ∧
    (Instr.aeBadchk.wellFormed = true ∧ Instr.aeBadchk.admits ⟨false, false⟩ = true) ∧
    ((Instr.aeBadend 0x02).wellFormed = true ∧ (Instr.aeBadend 0x02).admits ⟨false, false⟩ = true) := by decide

theorem witness_ExactlyOneRowApplies :
    (StepWord.stateBits 0x0C03#13).toNat ≤ 4 ∧ (StepWord.stateBits 0x0802#13).toNat ≤ 4 := by decide

theorem witness_StepRunsFetchedInstruction :
    decode (offered 0x41 sPay2).stepWord (offered 0x41 sPay2).guards = .apLast 0x41 := by decide

theorem witness_PlacedWordRunsNext :
    decodeTableWord 13 0x0A41 = some (.apMore 0x41) ∧ decodeTableWord 13 0x1FFF = some .init ∧
      decodeTableWord 16 0x0F00 = some .rsvdState67 := by decide

theorem witness_InitEffect :
    (reset 0x03 sEnd).nextCycle.rst = true ∧ (reset 0x03 sPower).nextCycle.rst = true ∧ ∃ t, exec .init sPower = .next t :=
  ⟨by decide, by decide, exists_of_completes (by decide)⟩

theorem witness_IdleEffect :
    (idling sPower).nextCycle.rst = false ∧ (idling sPower).nextCycle.inValid = false := by decide

theorem witness_StoppedHostChangesNothing : sEnd.inputs = [] := by decide

theorem witness_AsStartEffect :
    Ready (offered 0x02 sDone) ∧ (offered 0x02 sDone).state = .awaitStart ∧
      (offered 0x02 sDone).nextCycle = Cycle.ofByte 0x02#8 := by decide

theorem witness_AsSkipEffect :
    Ready (offered 0x03 sDone) ∧ (offered 0x03 sDone).state = .awaitStart ∧ (0x03#8 : Byte) ≠ 0x02#8 ∧
      (offered 0x03 sDone).nextCycle = Cycle.ofByte 0x03#8 := by decide

theorem witness_AlOverEffect :
    Ready (offered 0x0B sLen) ∧ (offered 0x0B sLen).state = .awaitLength ∧ Config.hardware.maxPayload < (0x0B#8).toNat ∧
      Config.hardware.maxPayload < (0xFF#8).toNat ∧ (offered 0x0B sLen).nextCycle = Cycle.ofByte 0x0B#8 := by decide

theorem witness_AlZeroEffect :
    Ready (offered 0x00 sLen) ∧ (offered 0x00 sLen).state = .awaitLength ∧
      (offered 0x00 sLen).nextCycle = Cycle.ofByte 0x00#8 := by decide

theorem witness_AlLenEffect :
    Ready (offered 0x0A sLen) ∧ (offered 0x0A sLen).state = .awaitLength ∧
      (1 ≤ (0x0A#8).toNat ∧ (0x0A#8).toNat ≤ Config.hardware.maxPayload) ∧ (1 ≤ (0x01#8).toNat ∧ (0x01#8).toNat ≤ Config.hardware.maxPayload) ∧
      (offered 0x0A sLen).nextCycle = Cycle.ofByte 0x0A#8 := by decide

theorem witness_ApMoreEffect :
    Ready (offered 0x4C sPay1) ∧ (offered 0x4C sPay1).state = .accumulatingPayload ∧
      (offered 0x4C sPay1).receivedCount.toNat + 1 ≠ (offered 0x4C sPay1).declaredLength.toNat ∧
      (offered 0x4C sPay1).nextCycle = Cycle.ofByte 0x4C#8 := by decide

theorem witness_ApLastEffect :
    Ready (offered 0x0A sFull9) ∧ (offered 0x0A sFull9).state = .accumulatingPayload ∧
      (offered 0x0A sFull9).receivedCount.toNat + 1 = (offered 0x0A sFull9).declaredLength.toNat ∧
      (offered 0x0A sFull9).nextCycle = Cycle.ofByte 0x0A#8 := by decide

theorem witness_AppendStoresAtOldCount :
    (Ready sPay0 ∧ ∃ t, exec (.apMore 0x4F) sPay0 = .next t) ∧ (Ready sFull9 ∧ ∃ t, exec (.apLast 0x0A) sFull9 = .next t) :=
  ⟨⟨by decide, exists_of_completes (by decide)⟩, ⟨by decide, exists_of_completes (by decide)⟩⟩

theorem witness_AcChkEffect :
    Ready (offered 0x42 sChk) ∧ (offered 0x42 sChk).state = .awaitChecksum ∧
      (offered 0x42 sChk).nextCycle = Cycle.ofByte 0x42#8 := by decide

theorem witness_AeOkEffect :
    Ready (offered 0x03 sEnd) ∧ (offered 0x03 sEnd).state = .awaitEnd ∧
      (offered 0x03 sEnd).computedChecksum = (offered 0x03 sEnd).receivedChecksum ∧
      (offered 0x03 sEnd).nextCycle = Cycle.ofByte 0x03#8 := by decide

theorem witness_AeBadchkEffect :
    Ready (offered 0x03 sBad) ∧ (offered 0x03 sBad).state = .awaitEnd ∧
      (offered 0x03 sBad).computedChecksum ≠ (offered 0x03 sBad).receivedChecksum ∧
      (offered 0x03 sBad).nextCycle = Cycle.ofByte 0x03#8 := by decide

theorem witness_AeBadendEffect :
    Ready (offered 0x02 sEnd) ∧ (offered 0x02 sEnd).state = .awaitEnd ∧ (0x02#8 : Byte) ≠ 0x03#8 ∧
      (offered 0x02 sEnd).nextCycle = Cycle.ofByte 0x02#8 := by decide

theorem witness_AwaitEndVerdict :
    (Ready (offered 0x03 sEnd) ∧ (offered 0x03 sEnd).nextCycle = Cycle.ofByte 0x03#8) ∧
      (Ready (offered 0x02 sBad) ∧ (offered 0x02 sBad).nextCycle = Cycle.ofByte 0x02#8) := by decide

theorem witness_ReservedStateFaults :
    (offered 0x00 sPower).state.named = false ∧ (offered 0x00 sPower).nextCycle.rst = false ∧
      (offered 0x00 sPower).nextCycle.inValid = true ∧ (idling sPower).nextCycle.inValid = false ∧
      (idling sPower).nextCycle.rst = false ∧ (reset 0x00 sPower).nextCycle.rst = true := by decide

theorem witness_DeclaredLengthWriters :
    (∃ t, exec .init sEnd = .next t) ∧ (∃ t, exec .asStart sDone = .next t) ∧ (∃ t, exec .alZero sLen = .next t) ∧
      (∃ t, exec (.alLen 0x0A) sLen = .next t) ∧ (∃ t, exec (.alOver 0x0B) sLen = .next t) :=
  ⟨exists_of_completes (by decide), exists_of_completes (by decide), exists_of_completes (by decide),
    exists_of_completes (by decide), exists_of_completes (by decide)⟩

theorem witness_ReceivedCountWriters :
    (∃ t, exec .asStart sDone = .next t) ∧ (∃ t, exec (.apMore 0x4F) sPay0 = .next t) ∧
      (∃ t, exec (.apLast 0x0A) sFull9 = .next t) ∧ (∃ t, exec .aeOk sEnd = .next t) :=
  ⟨exists_of_completes (by decide), exists_of_completes (by decide), exists_of_completes (by decide),
    exists_of_completes (by decide)⟩

theorem witness_ComputedChecksumWriters :
    (∃ t, exec .init sEnd = .next t) ∧ (∃ t, exec (.apLast 0x41) sPay2 = .next t) ∧ (∃ t, exec (.acChk 0x42) sChk = .next t) :=
  ⟨exists_of_completes (by decide), exists_of_completes (by decide), exists_of_completes (by decide)⟩

theorem witness_ReceivedChecksumWriters :
    (∃ t, exec .init sEnd = .next t) ∧ (∃ t, exec (.acChk 0x42) sChk = .next t) ∧ (∃ t, exec .asStart sDone = .next t) :=
  ⟨exists_of_completes (by decide), exists_of_completes (by decide), exists_of_completes (by decide)⟩

theorem witness_StorelessInstructionsKeepMemory :
    (∀ b, Instr.aeBadchk ≠ .apMore b ∧ Instr.aeBadchk ≠ .apLast b) ∧ (∃ t, exec .aeBadchk sBad = .next t) ∧
      (∀ b, Instr.init ≠ .apMore b ∧ Instr.init ≠ .apLast b) ∧ ∃ t, exec .init sPay2 = .next t :=
  ⟨fun _ => ⟨nofun, nofun⟩, exists_of_completes (by decide), fun _ => ⟨nofun, nofun⟩, exists_of_completes (by decide)⟩

theorem witness_StoringInstructionsFrame :
    (∃ t, exec (.apMore 0x00) sPay1 = .next t) ∧ ∃ t, exec (.apLast 0x0A) sFull9 = .next t :=
  ⟨exists_of_completes (by decide), exists_of_completes (by decide)⟩

/-- The count 9 stores in the last cell; the count 10 is the first outside. -/
theorem witness_StoresStayInsideTheBuffer :
    (∃ t, exec (.apLast 0x0A) sFull9 = .next t) ∧ Config.hardware.maxPayload ≤ 10 ∧ Ready sFull9 ∧
      sFull9.state = .accumulatingPayload ∧ sFull9.storeAddress = 9 ∧ (offered 0x55 sOver).initDone = true ∧
      (offered 0x55 sOver).state = .accumulatingPayload ∧ Config.hardware.maxPayload ≤ (offered 0x55 sOver).receivedCount.toNat ∧
      (offered 0x55 sOver).nextCycle.rst = false ∧ (offered 0x55 sOver).nextCycle.inValid = true :=
  ⟨exists_of_completes (by decide), by decide⟩

theorem witness_RejectionWritesOnlyThePhase :
    (∃ t, exec .aeBadchk sBad = .next t) ∧ (∃ t, exec (.alOver 0x0B) sLen = .next t) ∧
      ∃ t, exec (.aeBadend 0x02) sEnd = .next t :=
  ⟨exists_of_completes (by decide), exists_of_completes (by decide), exists_of_completes (by decide)⟩

theorem witness_OnlyTheseReturnToAwaitStart :
    ((nextOf (exec .aeOk sEnd)).map State.state = some .awaitStart ∧ sEnd.state ≠ .awaitStart) ∧
      ((nextOf (exec .aeBadchk sBad)).map State.state = some .awaitStart ∧ sBad.state ≠ .awaitStart) ∧
      ((nextOf (exec (.aeBadend 0x02) sEnd)).map State.state = some .awaitStart) ∧
      ((nextOf (exec (.alOver 0x0B) sLen)).map State.state = some .awaitStart ∧ sLen.state ≠ .awaitStart) ∧
      ((nextOf (exec .init sPay1)).map State.state = some .awaitStart ∧ sPay1.state ≠ .awaitStart) := by decide

theorem witness_StepIsTheClockedWrapper :
    Ready (offered 0x41 sPay2) ∧ Ready (offered 0xFF sLen) build255 ∧ Ready (offered 0x02 sLen) build1 ∧
      (reset 0x41 sPower).nextCycle.rst = true ∧ (idling sPower).nextCycle.inValid = false := by decide

theorem witness_NextPhaseFollowsTheTable :
    Ready (offered 0x41 sPay2) ∧ Ready (offered 0x41 sPay2) build255 ∧ (offered 0x41 sPay2).nextCycle.rst = false ∧
      (offered 0x41 sPay2).nextCycle.inValid = true := by decide

theorem witness_PhasesAreEnteredInOrder :
    ((Instr.acChk 0x42).isConsume = true ∧ (nextOf (exec (.acChk 0x42) sChk)).map State.state = some .awaitEnd) ∧
      ((nextOf (exec .alZero sLen)).map State.state = some .awaitChecksum) ∧
      ((nextOf (exec (.apLast 0x41) sPay2)).map State.state = some .awaitChecksum) ∧
      ((nextOf (exec (.alLen 0x01) sLen)).map State.state = some .accumulatingPayload) ∧
      ((nextOf (exec (.apMore 0x4F) sPay0)).map State.state = some .accumulatingPayload) ∧
      ((nextOf (exec .asStart sDone)).map State.state = some .awaitLength) := by decide

theorem witness_ObservationRecordsEachConsume :
    (Ready (offered 0x03 sEnd) ∧ (offered 0x03 sEnd).fetch.isConsume = true ∧ (offered 0x03 sEnd).frameReady = true) ∧
      (Ready (idling sEnd) ∧ (idling sEnd).fetch.isConsume = false) := by decide

theorem witness_OutputsFollowTheRegisters :
    Memory.read [(9, 0x0A)] 9 = some 0x0A ∧ (sample .awaitStart [(9, 0x0A)] 10 10 0 0).payloadOut 9 = some 0x0A ∧
      (sample .awaitStart [(9, 0x0A)] 10 10 0 0).payloadOut 10 = none := by decide

theorem witness_ResetValues : (∃ t, exec .init sPower = .next t) ∧ (reset 0x03 sEnd).nextCycle.rst = true :=
  ⟨exists_of_completes (by decide), by decide⟩

theorem witness_EveryStepCompletesAndKeepsInvariants : Ready State.reset ∧ Ready (offered 0x0A sFull9) := by decide
theorem witness_EveryStepCompletesAndKeepsInvariants_builds :
    Ready (offered 0x02 sLen) build1 ∧ Ready (offered 0x0A sFull9) build255 := by decide

theorem witness_MemoryFormIsKept :
    Memory.wf (offered 0x0A sFull9).payload ∧ (nextOf (step (offered 0x0A sFull9))).isSome = true := by decide

/-- With the canonical form of the payload list and without it. -/
theorem witness_InitRecoversFromAnyState :
    (Memory.wf (reset 0x03 sPower).payload ∧ (reset 0x03 sPower).nextCycle.rst = true) ∧
      (¬ Memory.wf [(3, 0x55), (1, 0xAA)] ∧
        (reset 0x03 { sPower with payload := [(3, 0x55), (1, 0xAA)] }).nextCycle.rst = true) := by decide

/-- A count that is already complete in AccumulatingPayload violates I4. -/
theorem witness_ByteOutsideInvariantsFaults :
    (offered 0x55 (sample .accumulatingPayload [] 0 0 0 0)).initDone = true ∧
      ¬ (offered 0x55 (sample .accumulatingPayload [] 0 0 0 0)).Legal ∧
      (offered 0x55 (sample .accumulatingPayload [] 0 0 0 0)).nextCycle.rst = false ∧
      (offered 0x55 (sample .accumulatingPayload [] 0 0 0 0)).nextCycle.inValid = true := by decide

theorem witness_ByteBeforeInitHasNoMeaning :
    (offered 0x02 { sStart with initDone := false }).initDone = false ∧
      (offered 0x02 { sStart with initDone := false }).state.named = true ∧
      (offered 0x02 { sStart with initDone := false }).nextCycle.rst = false ∧
      (offered 0x02 { sStart with initDone := false }).nextCycle.inValid = true ∧
      (offered 0x02 sPower).initDone = false ∧ (offered 0x02 sPower).nextCycle.inValid = true := by decide

theorem witness_EachCycleIsUsedOnce : (nextOf (step (offered 0x42 sChk))).map State.inputs = some [] := by decide

/-- The empty payload and one that fills the buffer. -/
theorem witness_WellFormedFrameIsDecoded :
    Ready sDone ∧ sDone.state = .awaitStart ∧ (∀ b ∈ [0xAA#8, 0x03#8], b ≠ 0x02#8) ∧
      ([] : List Byte).length ≤ Config.hardware.maxPayload ∧ (List.replicate 10 0x02#8).length ≤ Config.hardware.maxPayload := by decide

theorem witness_CorruptedFrameIsRejected :
    Ready sDone ∧ sDone.state = .awaitStart ∧ ([0x4F#8, 0x4C#8] : List Byte).length ≤ Config.hardware.maxPayload ∧ (0x01#8 : Byte) ≠ 0 ∧
      ([0x4F#8, 0x4C#8] : List Byte) = [0x4F#8] ++ [0x4C#8] ++ [] := by decide

theorem witness_BadEndMarkerIsRejected :
    Ready sDone ∧ sDone.state = .awaitStart ∧ ([0x55#8] : List Byte).length ≤ Config.hardware.maxPayload ∧
      (0x02#8 : Byte) ≠ 0x03#8 := by decide

theorem witness_AcceptedLanguage :
    Ready sStart ∧ sStart.state = .awaitStart ∧ ([0x02#8, 0x00#8, 0x00#8, 0x03#8] : List Byte) ≠ [] ∧
      ([0x02#8, 0x00#8, 0x00#8, 0x03#8] : List Byte) = [] ++ frame [] := by decide

theorem witness_BackInAwaitStartInBoundedSteps :
    Ready sLen ∧ sLen.state = .awaitLength ∧ (List.replicate 13 0x0A#8).length = Config.hardware.maxPayload + 3 := by decide

theorem witness_FramesAreFourBytesApart :
    Ready sStart ∧ sStart.state = .awaitStart ∧ ([0x02#8, 0x00#8, 0x00#8] : List Byte).length ≤ 3 ∧
      (nextOf (feed [0x02#8, 0x00#8, 0x00#8] sStart)).isSome = true := by decide

theorem witness_PayloadViewLastsUntilNextStart :
    Ready sDone ∧ sDone.state = .awaitStart ∧ (∀ b ∈ [0xAA#8, 0x03#8], b ≠ 0x02#8) ∧
      sDone.payloadView = [0x4F#8, 0x4C#8, 0x41#8] := by decide

/-- What the statement asks of a state with the byte m offered, in the phase p. -/
abbrev MarkerCase (s : State) (p : Phase) (m : Byte) : Prop :=
  Ready (offered m s) ∧ (offered m s).state = p ∧ (offered m s).nextCycle = Cycle.ofByte m

theorem witness_MarkersArePositional_start :
    MarkerCase sDone .awaitStart 0x02#8 ∧ MarkerCase sDone .awaitStart 0x03#8 := by decide
theorem witness_MarkersArePositional_length :
    MarkerCase sLen .awaitLength 0x02#8 ∧ MarkerCase sLen .awaitLength 0x03#8 := by decide
/-- In the middle of the payload and as its last byte. -/
theorem witness_MarkersArePositional_payload :
    MarkerCase sPay1 .accumulatingPayload 0x02#8 ∧ MarkerCase sFull9 .accumulatingPayload 0x03#8 := by decide
theorem witness_MarkersArePositional_checksum :
    MarkerCase sChk .awaitChecksum 0x02#8 ∧ MarkerCase sChk .awaitChecksum 0x03#8 := by decide
theorem witness_MarkersArePositional_end :
    MarkerCase sEnd .awaitEnd 0x02#8 ∧ MarkerCase sEnd .awaitEnd 0x03#8 := by decide
/-- With different checksums. -/
theorem witness_MarkersArePositional_end_bad : MarkerCase sBad .awaitEnd 0x03#8 := by decide

/-- The second state holds other stale items: the cells of S1 and a checksum byte of an earlier attempt. -/
theorem witness_StaleItemsHaveNoInfluence :
    Ready sPay0 ∧ Ready (sample .accumulatingPayload [(0, 0x55), (9, 0xAA)] 3 0 0 0x99) := by decide

theorem witness_StaleItemsHaveNoInfluence_same :
    SameFuture sPay0 (sample .accumulatingPayload [(0, 0x55), (9, 0xAA)] 3 0 0 0x99) ∧ SameFuture sStart sDone :=
  ⟨⟨rfl, rfl, fun _ => ⟨rfl, rfl, rfl⟩, nofun⟩, ⟨rfl, rfl, nofun, nofun⟩⟩

theorem witness_IdleCyclesHaveNoInfluence : Ready sEnd := by decide

theorem witness_ChecksumDetectsOneChangeOnly :
    List.Perm [0x4F#8, 0x4C#8] [0x4C#8, 0x4F#8] ∧ (0x00#8 : Byte) ≠ 0xFF#8 := by decide

end Sys2Proof.Tests
end

section
/-! SUPPORT. The ready states (Safety.Ready): the state after reset is one, every completed instruction keeps them, and every step
from one completes. -/

namespace Sys2Proof.Machine

open Sys2Proof.Safety

/-! ### Legal states -/

/-- A state between frames whose three attempt registers are 0 is legal (10_state R30; the start state of R33, and AS.START's). -/
theorem State.legal_of_cleared {c : Config.Params} {s : State} (hp : s.state = .awaitStart ∨ s.state = .awaitLength)
    (hd : s.declaredLength = 0) (hc : s.receivedCount = 0) (hx : s.computedChecksum = 0) : s.Legal c := by
  have h2 : s.I2 := by rw [State.I2, State.payloadView_of_zero hc, hx, xorBytes_nil]
  have he : s.receivedCount = s.declaredLength := hc.trans hd.symm
  have h1 : s.I1 c := ⟨by rw [he], by rw [hd]; exact Nat.zero_le _⟩
  refine ⟨h1, h2, fun _ => ⟨hd, hc, hx⟩, fun h => ?_, fun _ => he, fun _ => he, ?_⟩
  · rcases hp with hp | hp <;> rw [hp] at h <;> cases h
  · rcases hp with hp | hp <;> rw [State.I7, hp] <;> rfl

/-- The state after reset is ready in every build, whatever inputs are to come (10_state R33). -/
theorem reset_ready (c : Config.Params) (cs : List Cycle) : Ready { State.reset with inputs := cs } c :=
  ⟨rfl, State.legal_of_cleared (.inl rfl) rfl rfl rfl⟩

/-- Back in AwaitStart a legal state stays legal: only I1, I2 and I7 speak of that phase. -/
theorem State.Legal.goto_awaitStart {c : Config.Params} {s : State} (h : s.Legal c) : (s.goto .awaitStart).Legal c := by
  obtain ⟨h1, h2, -⟩ := h
  exact ⟨h1, h2, nofun, nofun, nofun, nofun, rfl⟩

/-- The result reported is no part of what makes a state legal. -/
theorem State.record_legal {c : Config.Params} {s : State} {o : Observation} : (s.record o).Legal c ↔ s.Legal c := Iff.rfl

/-- A length byte that fits makes the state legal in the phase it leads to (42 R122, R123). -/
theorem State.Legal.setDeclaredLength {c : Config.Params} {s : State} {l : Byte} {p : Phase} (h : s.Legal c)
    (hs : s.state = .awaitLength) (hl : l.toNat ≤ c.maxPayload)
    (hp : p = .awaitChecksum ∧ l = 0 ∨ p = .accumulatingPayload ∧ 1 ≤ l.toNat) :
    ((s.setDeclaredLength l).goto p).Legal c := by
  obtain ⟨-, h2, h3, -⟩ := h
  have hc : s.receivedCount = 0 := (h3 hs).2.1
  have h1 : ((s.setDeclaredLength l).goto p).I1 c := ⟨by simp [hc], hl⟩
  rcases hp with ⟨rfl, h0⟩ | ⟨rfl, h0⟩
  · exact ⟨h1, h2, nofun, nofun, fun _ => hc.trans h0.symm, nofun, rfl⟩
  · exact ⟨h1, h2, nofun, fun _ => ⟨h0, by simp [hc]; omega⟩, nofun, nofun, rfl⟩

/-- An append makes the state legal in the phase its new count leads to (43 R130). -/
theorem State.Legal.append {c : Config.Params} {s t : State} {b : Byte} (h : s.Legal c) (hs : s.state = .accumulatingPayload)
    (hm : t.payload = Memory.write s.payload s.receivedCount.toNat b) (hd : t.declaredLength = s.declaredLength)
    (hc : t.receivedCount = s.receivedCount + 1) (hx : t.computedChecksum = s.computedChecksum ^^^ b)
    (hp : t.state = .accumulatingPayload ∧ s.receivedCount.toNat + 1 ≠ s.declaredLength.toNat ∨
      t.state = .awaitChecksum ∧ s.receivedCount.toNat + 1 = s.declaredLength.toNat) : t.Legal c := by
  obtain ⟨⟨-, hmax⟩, h2, -, h4, -⟩ := h
  obtain ⟨hpos, hlt⟩ := h4 hs
  have hn : t.receivedCount.toNat = s.receivedCount.toNat + 1 := by rw [hc]; bv_omega
  have h1 : t.I1 c := ⟨by rw [hn, hd]; exact hlt, hd ▸ hmax⟩
  have hx' : t.I2 := by
    rw [State.I2, State.payloadView_append (by omega) hc hm, xorBytes_append, ← h2, hx]
    simp
  rcases hp with ⟨hp, hne⟩ | ⟨hp, heq⟩
  · exact ⟨h1, hx', by simp [State.I3, hp], fun _ => by rw [hn, hd]; omega, by simp [State.I5, hp], by simp [State.I6, hp],
      by rw [State.I7, hp]; rfl⟩
  · have he : t.receivedCount = t.declaredLength := BitVec.eq_of_toNat_eq (by rw [hn, hd, heq])
    exact ⟨h1, hx', by simp [State.I3, hp], by simp [State.I4, hp], fun _ => he, by simp [State.I6, hp],
      by rw [State.I7, hp]; rfl⟩

/-! ### What a completed instruction keeps -/

/-- Every completed instruction keeps the invariants (10_state R30). -/
theorem Effect.ready {c : Config.Params} {i : Instr} {s t : State} (h : Effect c s i t) (hs : Ready s c) : Ready t c := by
  obtain ⟨hi, hl⟩ := hs
  cases h with
  | init => exact ⟨rfl, State.legal_of_cleared (.inl rfl) rfl rfl rfl⟩
  | idle => exact ⟨hi, hl⟩
  | asStart => exact ⟨hi, State.legal_of_cleared (.inr rfl) rfl rfl rfl⟩
  | asSkip => exact ⟨hi, State.record_legal.2 hl⟩
  | alOver | aeOk | aeBadchk | aeBadend => exact ⟨hi, State.record_legal.2 hl.goto_awaitStart⟩
  | alZero _ _ hp => exact ⟨hi, State.record_legal.2 (hl.setDeclaredLength hp (Nat.zero_le _) (.inl ⟨rfl, rfl⟩))⟩
  | alLen l _ _ hp hb hb' => exact ⟨hi, State.record_legal.2 (hl.setDeclaredLength hp hb' (.inr ⟨rfl, hb⟩))⟩
  | apMore b _ _ hp hc => exact ⟨hi, hl.append hp rfl rfl rfl rfl (.inl ⟨rfl, hc⟩)⟩
  | apLast b _ _ hp hc => exact ⟨hi, hl.append hp rfl rfl rfl rfl (.inr ⟨rfl, hc⟩)⟩
  | acChk b _ _ hp =>
    obtain ⟨h1, h2, -, -, h5, -⟩ := hl
    exact ⟨hi, h1, h2, nofun, nofun, nofun, fun _ => h5 hp, rfl⟩

/-- No instruction uses up inputs: only the clock edge does (20_memory R61). -/
theorem Effect.inputs_eq {c : Config.Params} {i : Instr} {s t : State} (h : Effect c s i t) : t.inputs = s.inputs := by
  cases h <;> rfl

/-- Every instruction but INIT keeps the mark of INIT. -/
theorem Effect.initDone_eq {c : Config.Params} {i : Instr} {s t : State} (h : Effect c s i t) (hi : i ≠ .init) :
    t.initDone = s.initDone := by
  cases h with
  | init => exact absurd rfl hi
  | _ => rfl

/-- An instruction that appends no byte writes no cell (20_memory R54). -/
theorem Effect.payload_eq {c : Config.Params} {i : Instr} {s t : State} (h : Effect c s i t)
    (hi : ∀ b, i ≠ .apMore b ∧ i ≠ .apLast b) : t.payload = s.payload := by
  cases h with
  | apMore b => exact absurd rfl (hi b).1
  | apLast b => exact absurd rfl (hi b).2
  | _ => rfl

/-- A CONSUME adds one result to the record, FrameReady with the payload view if it is AE.OK and NoFrame otherwise; INIT and IDLE
add none (70 R211). -/
theorem Effect.observed_eq {c : Config.Params} {i : Instr} {s t : State} (h : Effect c s i t) :
    t.observed =
      (if i.isConsume then [if i = .aeOk then .frameReady s.payloadView else .noFrame] else []) ++ s.observed := by
  cases h <;> rfl

/-! ### The step of a cycle, by what the host offers -/

/-- The phase in whose rows of the map the instruction stands; none for INIT, IDLE and RSVD.STATE (30_encoding R80). -/
def rowPhase : Instr → Option Phase
  | .init | .idle | .rsvdState5 | .rsvdState67 => none
  | .asStart | .asSkip _ => some .awaitStart
  | .alOver _ | .alZero | .alLen _ => some .awaitLength
  | .apMore _ | .apLast _ => some .accumulatingPayload
  | .acChk _ => some .awaitChecksum
  | .aeOk | .aeBadchk | .aeBadend _ => some .awaitEnd

/-- The byte a phase selects an instruction by fits the instruction's row. -/
theorem selectedBy_wellFormed (p : Phase) (b : Byte) (g : Guards) (c : Config.Params) :
    (selectedBy p b g c).wellFormed c = true := by
  cases p with
  | awaitStart => simp only [selectedBy, decodeAwaitStart]; split <;> simp [Instr.wellFormed, *]
  | awaitLength =>
    simp only [selectedBy, decodeAwaitLength]
    split
    · simpa [Instr.wellFormed]
    · split
      · rfl
      · next hle h0 =>
        have hpos : 1 ≤ b.toNat := by bv_omega
        simp [Instr.wellFormed, hpos, Nat.le_of_not_lt hle]
  | accumulatingPayload => simp only [selectedBy, decodeAccumulatingPayload]; split <;> rfl
  | awaitEnd =>
    simp only [selectedBy, decodeAwaitEnd]
    split
    · split <;> rfl
    · simpa [Instr.wellFormed]
  | awaitChecksum | unused5 | unused6 | unused7 => rfl

/-- The guards a phase selects an instruction by admit the instruction's row. -/
theorem selectedBy_admits (p : Phase) (b : Byte) (g : Guards) (c : Config.Params) :
    (selectedBy p b g c).admits g = true := by
  cases p with
  | awaitStart => simp only [selectedBy, decodeAwaitStart]; split <;> rfl
  | awaitLength => simp only [selectedBy, decodeAwaitLength]; split <;> [rfl; (split <;> rfl)]
  | accumulatingPayload => simp only [selectedBy, decodeAccumulatingPayload]; split <;> simp [Instr.admits, *]
  | awaitEnd =>
    simp only [selectedBy, decodeAwaitEnd]
    split
    · split <;> simp [Instr.admits, *]
    · rfl
  | awaitChecksum | unused5 | unused6 | unused7 => rfl

/-- A named phase selects an instruction of its own rows. -/
theorem rowPhase_selectedBy {p : Phase} (hp : p.named = true) (b : Byte) (g : Guards) (c : Config.Params) :
    rowPhase (selectedBy p b g c) = some p := by
  cases p with
  | awaitStart => simp only [selectedBy, decodeAwaitStart]; split <;> rfl
  | awaitLength => simp only [selectedBy, decodeAwaitLength]; split <;> [rfl; (split <;> rfl)]
  | accumulatingPayload => simp only [selectedBy, decodeAccumulatingPayload]; split <;> rfl
  | awaitEnd => simp only [selectedBy, decodeAwaitEnd]; split <;> [(split <;> rfl); rfl]
  | awaitChecksum => rfl
  | unused5 | unused6 | unused7 => cases hp

/-- The outcome r is that of a consume transition whose row is selected in s, and whose effect completes if s is legal. -/
def RunsRow (c : Config.Params) (s : State) (r : Result) : Prop :=
  ∃ e, r = Ops.consumeRow true s e c ∧ (s.Legal c → ∃ t, e s = .next t)

/-- A consume transition runs its row where the row's test passes. -/
theorem RunsRow.of_selected {c : Config.Params} {sel : Bool} {s : State} {e : State → Result} (h : sel = true)
    (he : s.Legal c → ∃ t, e s = .next t) : RunsRow c s (Ops.consumeRow sel s e c) :=
  ⟨e, by rw [h], he⟩

/-- After INIT and from a legal state a selected row completes. -/
theorem RunsRow.completes {c : Config.Params} {s : State} {r : Result} (h : RunsRow c s r) (hs : Ready s c) :
    ∃ t, r = .next t := by
  obtain ⟨e, rfl, he⟩ := h
  obtain ⟨hi, hl⟩ := hs
  rw [Ops.consumeRow_eq hi rfl hl]
  exact he hl

/-- After INIT and outside the invariants a selected row faults (93 U1). -/
theorem RunsRow.faults {c : Config.Params} {s : State} {r : Result} (h : RunsRow c s r) (hi : s.initDone = true)
    (hl : ¬ s.Legal c) : ∃ f, r = .fault f := by
  obtain ⟨e, rfl, -⟩ := h
  obtain ⟨f, hf⟩ := Option.ne_none_iff_exists'.1 (mt Ops.unspecifiedState_none.1 hl)
  exact ⟨f, by simp [Ops.consumeRow, hi, hf]⟩

/-- An append of a legal state in AccumulatingPayload completes. -/
theorem Ops.append_completes {c : Config.Params} {s : State} (b : Byte) (p : Phase) (hl : s.Legal c)
    (hp : s.state = .accumulatingPayload) : ∃ t, Ops.append b p s c = .next t :=
  ⟨_, Ops.append_next.2 ⟨hl.storeAddress_lt hp, rfl⟩⟩

/-- An instruction in its own phase, with an operand and guards its row admits, runs its row. -/
theorem execAt_runsRow {c : Config.Params} {i : Instr} {s : State} (hp : rowPhase i = some s.state)
    (hw : i.wellFormed c = true) (hg : i.admits s.guards = true) : RunsRow c s (execAt c i s) := by
  cases i <;> simp only [rowPhase, Option.some.injEq, reduceCtorEq] at hp <;>
    simp only [execAt, execAsStart, execAsSkip, execAlOver, execAlZero, execAlLen, execApMore, execApLast, execAcChk,
      execAeOk, execAeBadchk, execAeBadend]
  case apMore b | apLast b =>
    exact .of_selected (by simp [← hp, hg]) fun hl => Ops.append_completes _ _ hl hp.symm
  all_goals exact .of_selected (by simp [← hp, hw, hg]) fun _ => ⟨_, rfl⟩

/-- A cycle with rst performs INIT (40 R101). -/
theorem stepAt_of_rst {c : Config.Params} {s : State} (h : s.nextCycle.rst = true) :
    stepAt c s = execInit s.takeCycle := by
  rw [stepAt, State.fetch_of_rst h]; rfl

/-- A cycle without a byte uses up its inputs and does nothing else (46 R161). -/
theorem stepAt_of_idle {c : Config.Params} {s : State} (h : s.nextCycle.rst = false) (hv : s.nextCycle.inValid = false) :
    stepAt c s = .next s.takeCycle := by
  rw [stepAt, State.fetch_of_idle h hv]; rfl

/-- A cycle with a byte in a named phase runs the selected row (40 R101, 30_encoding R81). -/
theorem stepAt_of_byte {c : Config.Params} {s : State} (h : s.nextCycle.rst = false) (hv : s.nextCycle.inValid = true)
    (hn : s.state.named = true) : RunsRow c s.takeCycle (stepAt c s) := by
  rw [stepAt, State.fetch_of_byte h hv]
  exact execAt_runsRow (rowPhase_selectedBy hn ..) (selectedBy_wellFormed ..) (selectedBy_admits ..)

/-- A cycle with a byte in an unused phase faults (46 R162). -/
theorem stepAt_of_unnamed {c : Config.Params} {s : State} (h : s.nextCycle.rst = false) (hv : s.nextCycle.inValid = true)
    (hn : s.state.named = false) : stepAt c s = .fault .reservedState := by
  rw [stepAt, State.fetch_of_byte h hv]
  cases hp : s.state with
  | unused5 | unused6 | unused7 => rfl
  | _ => rw [hp] at hn; cases hn

/-- A completed step did to the state, its cycle's inputs used up, what the fetched instruction's case says. -/
theorem stepAt_next {c : Config.Params} {s t : State} (h : stepAt c s = .next t) :
    Effect c s.takeCycle (s.fetch c) t := execAt_next h

/-- Every step from a ready state completes (70 R208). -/
theorem stepAt_completes {c : Config.Params} {s : State} (hs : Ready s c) : ∃ t, stepAt c s = .next t := by
  cases h : s.nextCycle.rst with
  | true => exact ⟨_, stepAt_of_rst h⟩
  | false =>
    cases hv : s.nextCycle.inValid with
    | false => exact ⟨_, stepAt_of_idle h hv⟩
    | true =>
      obtain ⟨hi, hl⟩ := hs
      obtain ⟨-, -, -, -, -, -, h7⟩ := id hl
      exact (stepAt_of_byte h hv h7).completes ⟨hi, hl⟩

/-- Every completed step from a ready state leads to a ready state (10_state R30). -/
theorem stepAt_ready {c : Config.Params} {s t : State} (hs : Ready s c) (h : stepAt c s = .next t) : Ready t c :=
  (stepAt_next h).ready hs

/-- A run goes on from the state its first step leads to. -/
theorem run_succ_of_next {M : Host.Core} {n : Nat} {s t : M.State} (h : M.step s = .next t) : M.run (n + 1) s = M.run n t := by
  rw [Host.Core.run, h]

/-- Every run of this hardware from a ready state completes in a ready state. -/
theorem run_ready (n : Nat) {s : State} (hs : Ready s) : ∃ t, Host.Core.run Sys2Proof.core n s = .next t ∧ Ready t := by
  induction n generalizing s with
  | zero => exact ⟨s, rfl, hs⟩
  | succ n ih =>
    obtain ⟨u, hu⟩ := stepAt_completes hs
    obtain ⟨t, ht, hr⟩ := ih (stepAt_ready hs hu)
    exact ⟨t, (run_succ_of_next ((step_eq_stepAt s).trans hu)).trans ht, hr⟩

end Sys2Proof.Machine
end

section
/-! SUPPORT. Stale items (10_state R29): states that `SameFuture` relates run the same instruction and stay related. -/

namespace Sys2Proof.Safety

open Sys2Proof.Machine

/-- The registers and cells are all stale in AwaitStart and AwaitLength. -/
theorem SameFuture.of_stale {s t : State} (hs : s.state = t.state) (hi : s.inputs = t.inputs)
    (hp : t.state = .awaitStart ∨ t.state = .awaitLength) : SameFuture s t := by
  refine ⟨hs, hi, fun h => ?_, fun h => ?_⟩ <;> rw [hs] at h <;> rcases hp with hp | hp <;> simp [hp] at h

/-- The coming cycle's inputs are used up in both states alike. -/
theorem SameFuture.takeCycle {s t : State} (h : SameFuture s t) : SameFuture s.takeCycle t.takeCycle := by
  obtain ⟨hp, hi, hr, hc⟩ := h
  exact ⟨hp, congrArg List.tail hi, hr, hc⟩

/-- The coming cycle is the same in both. -/
theorem SameFuture.nextCycle_eq {s t : State} (h : SameFuture s t) : s.nextCycle = t.nextCycle := by
  unfold State.nextCycle; rw [h.2.1]

/-- In the phases from AccumulatingPayload on the length, the count and the payload view are live (10_state R29). -/
theorem SameFuture.live {s t : State} (h : SameFuture s t)
    (hp : s.state = .accumulatingPayload ∨ s.state = .awaitChecksum ∨ s.state = .awaitEnd) :
    s.declaredLength = t.declaredLength ∧ s.receivedCount = t.receivedCount ∧ s.payloadView = t.payloadView := by
  obtain ⟨-, -, hr, -⟩ := h
  exact hr hp

/-- Equal payload views have equal XORs, so by I2 neither checksum differs in AwaitEnd. -/
theorem SameFuture.checksums_eq {c : Config.Params} {s t : State} (h : SameFuture s t) (hs : s.Legal c) (ht : t.Legal c)
    (hp : s.state = .awaitEnd) :
    s.computedChecksum = t.computedChecksum ∧ s.receivedChecksum = t.receivedChecksum := by
  obtain ⟨-, -, hv⟩ := h.live (.inr (.inr hp))
  obtain ⟨-, -, -, hc⟩ := h
  obtain ⟨-, hs2, -⟩ := hs
  obtain ⟨-, ht2, -⟩ := ht
  exact ⟨by rw [hs2, ht2, hv], hc hp⟩

/-- No stale item decides `frame_ready` (40 R102). -/
theorem SameFuture.frameReady_eq {c : Config.Params} {s t : State} (h : SameFuture s t) (hs : s.Legal c) (ht : t.Legal c) :
    s.frameReady = t.frameReady := by
  unfold State.frameReady
  rw [← h.nextCycle_eq, ← h.1]
  by_cases hp : s.state = .awaitEnd
  · obtain ⟨hx, hc⟩ := h.checksums_eq hs ht hp
    rw [hx, hc]
  · simp [beq_false_of_ne hp]

/-- No stale item decides which instruction the map selects (30_encoding R80). -/
theorem SameFuture.fetch_eq {c : Config.Params} {s t : State} (h : SameFuture s t) (hs : s.Legal c) (ht : t.Legal c) :
    s.fetch c = t.fetch c := by
  have hcy := h.nextCycle_eq
  cases hr : t.nextCycle.rst with
  | true => rw [State.fetch_of_rst hr, State.fetch_of_rst (hcy ▸ hr)]
  | false =>
    cases hv : t.nextCycle.inValid with
    | false => rw [State.fetch_of_idle hr hv, State.fetch_of_idle (hcy ▸ hr) (hcy ▸ hv)]
    | true =>
      rw [State.fetch_of_byte hr hv, State.fetch_of_byte (hcy ▸ hr) (hcy ▸ hv), hcy, ← h.1]
      cases hp : s.state with
      | accumulatingPayload =>
        obtain ⟨hd, hn, -⟩ := h.live (.inl hp)
        simp [selectedBy, decodeAccumulatingPayload, State.guards, Flags.lastByte, hd, hn]
      | awaitEnd =>
        obtain ⟨hx, hc⟩ := h.checksums_eq hs ht hp
        simp [selectedBy, decodeAwaitEnd, State.guards, Flags.checksumOk, hx, hc]
      | _ => rfl

/-- Two legal states in AwaitLength have the same count and view, 0 and empty, by I3. -/
theorem emptyView_eq_of_awaitLength {c : Config.Params} {s t : State} (hs : s.Legal c) (ht : t.Legal c)
    (hp : s.state = .awaitLength) (hq : t.state = .awaitLength) :
    s.receivedCount = t.receivedCount ∧ s.payloadView = t.payloadView := by
  obtain ⟨-, -, hs3, -⟩ := hs
  obtain ⟨-, -, ht3, -⟩ := ht
  obtain ⟨-, hn, -⟩ := hs3 hp
  obtain ⟨-, hn', -⟩ := ht3 hq
  exact ⟨hn.trans hn'.symm, (State.payloadView_of_zero hn).trans (State.payloadView_of_zero hn').symm⟩

/-- Two appends of one byte at one count extend equal payload views alike (43 R130). -/
theorem SameFuture.append {c : Config.Params} {s t s' t' : State} {b : Byte} (h : SameFuture s t) (hl : s.Legal c)
    (hp : s.state = .accumulatingPayload)
    (hsc : s'.receivedCount = s.receivedCount + 1) (hsm : s'.payload = Memory.write s.payload s.receivedCount.toNat b)
    (htc : t'.receivedCount = t.receivedCount + 1) (htm : t'.payload = Memory.write t.payload t.receivedCount.toNat b) :
    s'.receivedCount = t'.receivedCount ∧ s'.payloadView = t'.payloadView := by
  obtain ⟨-, hn, hv⟩ := h.live (.inl hp)
  have hlt : s.receivedCount.toNat < 255 := Nat.lt_of_lt_of_le (hl.storeAddress_lt hp) c.le_255
  exact ⟨by rw [hsc, htc, hn],
    by rw [State.payloadView_append hlt hsc hsm, State.payloadView_append (hn ▸ hlt) htc htm, hv]⟩

/-- One instruction completed in two states that differ only in stale items leads to two such states again (60 R178). -/
theorem SameFuture.effect {c : Config.Params} {i : Instr} {s t s' t' : State} (h : SameFuture s t) (hs : Effect c s i s')
    (ht : Effect c t i t') : SameFuture s' t' := by
  have hi : s.inputs = t.inputs := h.2.1
  cases hs with
  | init | aeOk | aeBadchk | aeBadend | alOver => cases ht; exact .of_stale rfl hi (.inl rfl)
  | idle | asSkip => cases ht; exact h
  | asStart => cases ht; exact .of_stale rfl hi (.inr rfl)
  | alZero _ hl hps =>
    cases ht with
    | alZero _ hl' hpt =>
      have he := emptyView_eq_of_awaitLength hl hl' hps hpt
      exact ⟨rfl, hi, fun _ => ⟨rfl, he⟩, nofun⟩
  | alLen _ _ hl hps =>
    cases ht with
    | alLen _ _ hl' hpt =>
      have he := emptyView_eq_of_awaitLength hl hl' hps hpt
      exact ⟨rfl, hi, fun _ => ⟨rfl, he⟩, nofun⟩
  | apMore b _ hl hps | apLast b _ hl hps =>
    obtain ⟨hd, -⟩ := h.live (.inl hps)
    cases ht
    exact ⟨rfl, hi, fun _ => ⟨hd, h.append (b := b) hl hps rfl rfl rfl rfl⟩, nofun⟩
  | acChk b _ _ hps => cases ht; exact ⟨rfl, hi, fun _ => h.live (.inr (.inl hps)), fun _ => rfl⟩

/-- One instruction completed in two states that differ only in stale items adds the same result to both records (70 R211). -/
theorem SameFuture.results_eq {c : Config.Params} {i : Instr} {s t s' t' : State} (h : SameFuture s t) (hs : Effect c s i s')
    (ht : Effect c t i t') : ∃ os, s'.observed = os ++ s.observed ∧ t'.observed = os ++ t.observed := by
  refine ⟨_, hs.observed_eq, ht.observed_eq.trans ?_⟩
  by_cases hi : i = .aeOk
  · subst hi
    cases hs with
    | aeOk _ _ hp =>
      obtain ⟨-, -, hv⟩ := h.live (.inr (.inr hp))
      rw [hv]
  · simp only [if_neg hi]

end Sys2Proof.Safety
end

section
/-! The statements about the state's items: what each is written by, the outputs, reset, and the invariants. -/

namespace Sys2Proof.Proofs

open Sys2Proof.Machine Sys2Proof.Safety

/-- Settles O25, by the inversion of exec: a row that is no writer keeps the register. -/
theorem declaredLengthWriters : Obligations.DeclaredLengthWriters := by
  intro i s t h
  cases exec_next h with
  | init => exact .inl ⟨.inl rfl, rfl⟩
  | asStart => exact .inl ⟨.inr (.inl rfl), rfl⟩
  | alZero => exact .inl ⟨.inr (.inr rfl), rfl⟩
  | alLen l _ _ _ hb hb' => exact .inr (.inl ⟨l, rfl, rfl, hb, hb'⟩)
  | _ => exact .inr (.inr ⟨⟨nofun, nofun, nofun, nofun⟩, rfl⟩)

/-- Settles O26, by the inversion of exec. -/
theorem receivedCountWriters : Obligations.ReceivedCountWriters := by
  intro i s t h
  cases exec_next h with
  | init => exact .inl ⟨.inl rfl, rfl⟩
  | asStart => exact .inl ⟨.inr rfl, rfl⟩
  | apMore b => exact .inr (.inl ⟨⟨b, .inl rfl⟩, rfl⟩)
  | apLast b => exact .inr (.inl ⟨⟨b, .inr rfl⟩, rfl⟩)
  | _ => exact .inr (.inr ⟨⟨nofun, nofun, fun _ => ⟨nofun, nofun⟩⟩, rfl⟩)

/-- Settles O27, by the inversion of exec. -/
theorem computedChecksumWriters : Obligations.ComputedChecksumWriters := by
  intro i s t h
  cases exec_next h with
  | init => exact .inl ⟨.inl rfl, rfl⟩
  | asStart => exact .inl ⟨.inr rfl, rfl⟩
  | apMore b => exact .inr (.inl ⟨b, .inl rfl, rfl⟩)
  | apLast b => exact .inr (.inl ⟨b, .inr rfl, rfl⟩)
  | _ => exact .inr (.inr ⟨⟨nofun, nofun, fun _ => ⟨nofun, nofun⟩⟩, rfl⟩)

/-- Settles O28, by the inversion of exec. -/
theorem receivedChecksumWriters : Obligations.ReceivedChecksumWriters := by
  intro i s t h
  cases exec_next h with
  | init => exact .inl ⟨rfl, rfl⟩
  | acChk b => exact .inr (.inl ⟨b, rfl, rfl⟩)
  | _ => exact .inr (.inr ⟨⟨nofun, nofun⟩, rfl⟩)

/-- Settles O29: the payload list itself is unchanged, so every read of it is. -/
theorem storelessInstructionsKeepMemory : Obligations.StorelessInstructionsKeepMemory := by
  intro i s t hi h
  have he := exec_next h
  have hm : t.payload = s.payload := he.payload_eq hi
  exact ⟨fun a => by rw [hm], fun a => by rw [State.payloadByte, hm, State.payloadByte], he.inputs_eq, he.initDone_eq⟩

/-- Settles O39: a written cell shows its byte, whatever the power-up byte is. -/
theorem outputsFollowTheRegisters : Obligations.OutputsFollowTheRegisters := by
  intro s i
  have hin : i < 10 → s.payloadOut i = some (s.payloadByte i) := fun hi => if_pos hi
  refine ⟨rfl, hin, fun hi => if_neg (Nat.not_lt.2 hi), fun b hi hr => ?_, fun b _ => Memory.read_write_same ..⟩
  rw [hin hi, State.payloadByte, hr, Option.getD_some]

/-- Settles O40: INIT writes what reset holds and no cell, and rst masks frame_ready. -/
theorem resetValues : Obligations.ResetValues := by
  refine ⟨rfl, rfl, rfl, rfl, rfl, rfl, fun s t h => ?_⟩
  cases exec_next h
  exact ⟨rfl, rfl, rfl, rfl, rfl, rfl, rfl, fun hr => by simp [State.frameReady, hr]⟩

/-- Settles O41: reset's three attempt registers are 0 and its buffer is empty. -/
theorem resetSatisfiesInvariants : Obligations.ResetSatisfiesInvariants :=
  have h (c : Config.Params) : Inv State.reset c := ⟨reset_ready c [], Memory.wf_reset c⟩
  ⟨h, h _⟩

/-- Settles O43, by the induction over runs. -/
theorem reachableStatesSatisfyInvariants : Obligations.ReachableStatesSatisfyInvariants := by
  intro cs
  obtain ⟨t, ht, -, hl⟩ := run_ready cs.length (reset_ready _ cs)
  exact ⟨t, ht, hl⟩

/-- Settles O46: in a named phase the frame of the selected row stops, in an unused one RSVD.STATE does. -/
theorem byteOutsideInvariantsFaults : Obligations.ByteOutsideInvariantsFaults := by
  intro s hi hl h hv
  rw [step_eq_stepAt]
  cases hn : s.state.named with
  | true => exact (stepAt_of_byte h hv hn).faults hi (mt State.takeCycle_legal.1 hl)
  | false => exact ⟨_, stepAt_of_unnamed h hv hn⟩

/-- Settles O58: related ready states fetch one instruction, and its two effects are related. -/
theorem staleItemsHaveNoInfluence : Obligations.StaleItemsHaveNoInfluence := by
  intro s t hs ht h
  obtain ⟨s', hs'⟩ := stepAt_completes hs
  obtain ⟨t', ht'⟩ := stepAt_completes ht
  obtain ⟨-, hls⟩ := hs
  obtain ⟨-, hlt⟩ := ht
  have es : Effect _ s.takeCycle s.fetch s' := stepAt_next hs'
  have et : Effect _ t.takeCycle s.fetch t' := h.fetch_eq hls hlt ▸ stepAt_next ht'
  exact ⟨h.frameReady_eq hls hlt, s', t', (step_eq_stepAt s).trans hs', (step_eq_stepAt t).trans ht',
    h.takeCycle.effect es et, h.takeCycle.results_eq es et⟩

end Sys2Proof.Proofs
end

section
/-! SUPPORT. What an instruction can do to the payload buffer, and the feeding of bytes one CONSUME step at a time. -/

namespace Sys2Proof.Machine

open Sys2Proof.Safety

/-! ### The payload buffer -/

/-- A completed instruction keeps the payload list or writes one byte to it, at a store address inside the buffer (20_memory R53,
R54). -/
theorem Effect.payload_cases {c : Config.Params} {i : Instr} {s t : State} (h : Effect c s i t) :
    t.payload = s.payload ∨
      ∃ b, s.storeAddress < c.maxPayload ∧ t.payload = Memory.write s.payload s.storeAddress b := by
  cases h with
  | apMore b _ hl hp | apLast b _ hl hp => exact .inr ⟨b, hl.storeAddress_lt hp, rfl⟩
  | _ => exact .inl rfl

/-- A completed instruction changes no cell outside the buffer (20_memory R53). -/
theorem Effect.read_outside {c : Config.Params} {i : Instr} {s t : State} (h : Effect c s i t) {a : Nat}
    (ha : c.maxPayload ≤ a) : Memory.read t.payload a = Memory.read s.payload a := by
  obtain hm | ⟨b, hlt, hm⟩ := h.payload_cases
  · rw [hm]
  · rw [hm, Memory.read_write_other _ _ (by omega)]

/-- A completed instruction keeps the canonical form of the payload list (20_memory R50). -/
theorem Effect.memory_wf {c : Config.Params} {i : Instr} {s t : State} (h : Effect c s i t) (hs : Memory.wf s.payload c) :
    Memory.wf t.payload c := by
  obtain hm | ⟨b, hlt, hm⟩ := h.payload_cases
  · rw [hm]; exact hs
  · rw [hm]; exact Memory.wf_write hs hlt b

/-- After INIT a selected row stops with the fault that names its unspecified state. -/
theorem RunsRow.fault_of_unspecified {c : Config.Params} {s : State} {r : Result} {f : Fault} (h : RunsRow c s r)
    (hi : s.initDone = true) (hf : Ops.unspecifiedState s c = some f) : r = .fault f := by
  obtain ⟨e, rfl, -⟩ := h
  simp [Ops.consumeRow, hi, hf]

/-! ### Feeding bytes -/

/-- An instruction does the same whatever inputs are to come, and keeps them. -/
theorem Effect.setInputs {c : Config.Params} {i : Instr} {s t : State} (h : Effect c s i t) (cs : List Cycle) :
    Effect c (s.setInputs cs) i (t.setInputs cs) := by
  cases h <;> constructor <;> assumption

/-- Feeding no byte takes no step. -/
theorem feed_nil (s : State) : feed [] s = .next s := rfl

/-- From a ready state the first byte's step completes as the instruction its phase selects, and the other bytes are fed from
there (30_encoding R77). -/
theorem feed_cons {s : State} (hs : Ready s) (b : Byte) (bs : List Byte) :
    ∃ t, Effect Config.hardware s (selectedBy s.state b s.guards) t ∧ feed (b :: bs) s = feed bs t := by
  have hready : Ready (offer (b :: bs) s) := hs
  obtain ⟨u, hu⟩ := stepAt_completes hready
  have he : Effect Config.hardware (offer bs s) (selectedBy s.state b s.guards) u := by
    rw [← show (offer (b :: bs) s).fetch = selectedBy s.state b s.guards from State.fetch_of_byte rfl rfl]
    exact stepAt_next hu
  refine ⟨u.setInputs s.inputs, he.setInputs s.inputs, ?_⟩
  have hu' : offer bs (u.setInputs s.inputs) = u := by
    have hin : u.inputs = bs.map Cycle.ofByte ++ s.inputs := he.inputs_eq
    simp only [offer, State.setInputs, ← hin]
  rw [feed, feed, hu']
  exact run_succ_of_next ((step_eq_stepAt _).trans hu)

/-- Bytes other than the start marker fed in AwaitStart are skipped: each adds NoFrame to the record and writes nothing else
(41 R111). -/
theorem feed_garbage {s : State} {g : List Byte} (hs : Ready s) (hp : s.state = .awaitStart) (hg : ∀ b ∈ g, b ≠ 0x02#8)
    (bs : List Byte) :
    feed (g ++ bs) s = feed bs { s with observed := List.replicate g.length .noFrame ++ s.observed } := by
  induction g generalizing s with
  | nil => rfl
  | cons b g ih =>
    obtain ⟨hb, hg⟩ := List.forall_mem_cons.1 hg
    obtain ⟨t, he, hf⟩ := feed_cons hs b (g ++ bs)
    have hsel : selectedBy s.state b s.guards = .asSkip b := by rw [hp]; exact if_neg hb
    rw [hsel] at he
    have ht : Ready t := he.ready hs
    cases he
    rw [List.cons_append, hf, ih ht hp hg]
    simp [Ops.noFrame, State.record, List.replicate_succ', List.append_assoc]

/-- The start marker fed in AwaitStart begins an attempt (41 R110). -/
theorem feed_start {s : State} (hs : Ready s) (hp : s.state = .awaitStart) (bs : List Byte) :
    feed (0x02#8 :: bs) s = feed bs (Ops.noFrame (Ops.beginAttempt s)) := by
  obtain ⟨t, he, hf⟩ := feed_cons hs 0x02#8 bs
  have hsel : selectedBy s.state 0x02#8 s.guards = .asStart := by rw [hp]; rfl
  rw [hsel] at he
  cases he
  exact hf

end Sys2Proof.Machine
end

section
/-! The statements about the payload buffer: what is stored where, its form, and how long the payload view lasts. -/

namespace Sys2Proof.Proofs

open Sys2Proof.Machine Sys2Proof.Safety

/-- Settles O30: both rows' effect is one write at the store address. -/
theorem storingInstructionsFrame : Obligations.StoringInstructionsFrame := by
  intro i b s t hi h
  have he := exec_next h
  rcases hi with rfl | rfl <;> cases he <;>
    exact ⟨fun a ha => Memory.read_write_other _ _ ha, Memory.read_write_same .., rfl, rfl, rfl, rfl⟩

/-- Settles O31: a store that completes is inside the buffer, by I1 and I4; with the count outside it the selected row stops
before its effect. -/
theorem storesStayInsideTheBuffer : Obligations.StoresStayInsideTheBuffer := by
  refine ⟨fun i s t h a ha => (exec_next h).read_outside ha, fun s hs hp => ?_, fun s hi hp hc h hv => ?_⟩
  · obtain ⟨-, hl⟩ := hs
    exact hl.storeAddress_lt hp
  · have hn : s.state.named = true := by rw [hp]; rfl
    have hf : Ops.unspecifiedState s.takeCycle Config.hardware = some .payloadIndexOutOfRange := if_pos ⟨hp, hc⟩
    rw [step_eq_stepAt]
    exact (stepAt_of_byte h hv hn).fault_of_unspecified hi hf

/-- Settles O44: taking the cycle's inputs leaves the payload list, and every instruction keeps its form. -/
theorem memoryFormIsKept : Obligations.MemoryFormIsKept := by
  intro s t hm h
  rw [step_eq_stepAt] at h
  exact (stepAt_next h).memory_wf hm

/-- Settles O49: the clock edge takes the first cycle, and no instruction takes another. -/
theorem eachCycleIsUsedOnce : Obligations.EachCycleIsUsedOnce := by
  intro s t h
  rw [step_eq_stepAt] at h
  exact (stepAt_next h).inputs_eq

/-- Settles O56: garbage changes only the record, and AS.START clears the count. -/
theorem payloadViewLastsUntilNextStart : Obligations.PayloadViewLastsUntilNextStart := by
  intro s g hs hp hg
  constructor
  · have hf := feed_garbage hs hp hg []
    rw [List.append_nil, feed_nil] at hf
    exact ⟨_, hf, hp, rfl, rfl⟩
  · have hu : Ready { s with observed := List.replicate g.length .noFrame ++ s.observed } := hs
    exact ⟨_, (feed_garbage hs hp hg _).trans (feed_start hu hp []), State.payloadView_of_zero rfl, rfl⟩

end Sys2Proof.Proofs
end

section
/-! SUPPORT. Decoding and encoding are inverse to each other, and the printed map agrees with decoding, by the fields of the
step word and the phase they name (30_encoding R78 to R81). -/

namespace Sys2Proof

open Sys2Proof.Machine

/-- Every step word has a phase in its state bits. -/
theorem StepWord.exists_pack (sw : StepWord) : ∃ r v, ∃ p : Phase, ∃ b, sw = StepWord.pack r v p.code b :=
  ⟨_, _, Phase.ofCode (StepWord.stateBits sw), _, by rw [Phase.code_ofCode, StepWord.pack_fields]⟩

/-- The phases with codes up to 4 are the named ones (10_state R21). -/
theorem Machine.Phase.named_of_code_le {p : Phase} (h : p.code.toNat ≤ 4) : p.named = true := by
  revert h; cases p <;> decide

/-- The number a packed step word stands for (30_encoding R78). -/
theorem StepWord.toNat_pack (r v : Bool) (p : BitVec 3) (b : Byte) :
    (StepWord.pack r v p b).toNat = 4096 * r.toNat + 2048 * v.toNat + 256 * p.toNat + b.toNat := by
  unfold StepWord.pack
  have hp := p.isLt
  have hb := b.isLt
  rw [BitVec.toNat_append, BitVec.toNat_append, BitVec.toNat_append,
    ← Nat.shiftLeft_add_eq_or_of_lt hb, ← Nat.shiftLeft_add_eq_or_of_lt hp,
    ← Nat.shiftLeft_add_eq_or_of_lt (BitVec.isLt _)]
  simp only [Nat.shiftLeft_eq, BitVec.toNat_ofBool]
  omega

/-- Where the word offers a byte, the phase selects the instruction. -/
theorem decode_pack_byte (c : Config.Params) (p : Phase) (b : Byte) (g : Guards) :
    decode (StepWord.pack false true p.code b) g c = selectedBy p b g c := decode_pack ..

/-! ### The byte each row is selected by (30_encoding R80) -/

theorem selectedBy_asStart (g : Guards) (c : Config.Params) : selectedBy .awaitStart 0x02#8 g c = .asStart := rfl

theorem selectedBy_asSkip {b : Byte} (h : b ≠ 0x02#8) (g : Guards) (c : Config.Params) :
    selectedBy .awaitStart b g c = .asSkip b := if_neg h

theorem selectedBy_alOver {l : Byte} {c : Config.Params} (h : c.maxPayload < l.toNat) (g : Guards) :
    selectedBy .awaitLength l g c = .alOver l := if_pos h

theorem selectedBy_alZero (g : Guards) (c : Config.Params) : selectedBy .awaitLength 0x00#8 g c = .alZero :=
  if_neg (t := .alOver 0x00#8) (Nat.not_lt_zero c.maxPayload)

theorem selectedBy_alLen {l : Byte} {c : Config.Params} (h : 1 ≤ l.toNat) (h' : l.toNat ≤ c.maxPayload) (g : Guards) :
    selectedBy .awaitLength l g c = .alLen l := by
  have h0 : l ≠ 0 := by rintro rfl; exact absurd h (by decide)
  exact (if_neg (Nat.not_lt.2 h')).trans (if_neg h0)

theorem selectedBy_apMore (b : Byte) {g : Guards} (h : g.lastByte = false) (c : Config.Params) :
    selectedBy .accumulatingPayload b g c = .apMore b := if_neg (by simp [h])

theorem selectedBy_apLast (b : Byte) {g : Guards} (h : g.lastByte = true) (c : Config.Params) :
    selectedBy .accumulatingPayload b g c = .apLast b := if_pos h

theorem selectedBy_aeOk {g : Guards} (h : g.checksumOk = true) (c : Config.Params) :
    selectedBy .awaitEnd 0x03#8 g c = .aeOk := if_pos h

theorem selectedBy_aeBadchk {g : Guards} (h : g.checksumOk = false) (c : Config.Params) :
    selectedBy .awaitEnd 0x03#8 g c = .aeBadchk := if_neg (by simp [h])

theorem selectedBy_aeBadend {b : Byte} (h : b ≠ 0x03#8) (g : Guards) (c : Config.Params) :
    selectedBy .awaitEnd b g c = .aeBadend b := if_neg h

/-! ### Encoding against decoding -/

/-- Decoding gives a well-formed instruction back from its step word, read with guards that admit its row. -/
theorem decode_encode {c : Config.Params} {i : Instr} {g : Guards} (hw : i.wellFormed c = true) (hg : i.admits g = true) :
    decode (encode i) g c = i := by
  cases i with
  | init => exact decode_pack c true false .awaitStart 0 g
  | idle => exact decode_pack c false false .awaitStart 0 g
  | asStart => exact (decode_pack_byte c .awaitStart _ g).trans (selectedBy_asStart g c)
  | asSkip b => exact (decode_pack_byte c .awaitStart b g).trans (selectedBy_asSkip (bne_iff_ne.1 hw) g c)
  | alOver l => exact (decode_pack_byte c .awaitLength l g).trans (selectedBy_alOver (of_decide_eq_true hw) g)
  | alZero => exact (decode_pack_byte c .awaitLength 0 g).trans (selectedBy_alZero g c)
  | alLen l =>
    obtain ⟨h, h'⟩ := Bool.and_eq_true_iff.1 hw
    exact (decode_pack_byte c .awaitLength l g).trans
      (selectedBy_alLen (of_decide_eq_true h) (of_decide_eq_true h') g)
  | apMore b =>
    exact (decode_pack_byte c .accumulatingPayload b g).trans (selectedBy_apMore b (Bool.not_eq_true' _ ▸ hg) c)
  | apLast b => exact (decode_pack_byte c .accumulatingPayload b g).trans (selectedBy_apLast b hg c)
  | acChk b => exact decode_pack_byte c .awaitChecksum b g
  | aeOk => exact (decode_pack_byte c .awaitEnd _ g).trans (selectedBy_aeOk hg c)
  | aeBadchk => exact (decode_pack_byte c .awaitEnd _ g).trans (selectedBy_aeBadchk (Bool.not_eq_true' _ ▸ hg) c)
  | aeBadend b => exact (decode_pack_byte c .awaitEnd b g).trans (selectedBy_aeBadend (bne_iff_ne.1 hw) g c)
  | rsvdState5 => exact decode_pack_byte c .unused5 0 g
  | rsvdState67 => exact decode_pack_byte c .unused6 0 g

/-- Every row is admitted by some content of the registers. -/
theorem Instr.exists_admits (i : Instr) : ∃ g : Guards, i.admits g = true := by
  cases i with
  | apLast => exact ⟨⟨true, true⟩, rfl⟩
  | aeBadchk => exact ⟨⟨false, false⟩, rfl⟩
  | _ => exact ⟨⟨false, true⟩, rfl⟩

/-- In a named phase the instruction a byte selects encodes that phase and that byte. -/
theorem encode_selectedBy {p : Phase} (hp : p.named = true) (b : Byte) (g : Guards) (c : Config.Params) :
    encode (selectedBy p b g c) = StepWord.pack false true p.code b := by
  cases p with
  | awaitStart =>
    by_cases h : b = 0x02#8
    · rw [h, selectedBy_asStart]; rfl
    · rw [selectedBy_asSkip h]; rfl
  | awaitLength =>
    by_cases h : c.maxPayload < b.toNat
    · rw [selectedBy_alOver h]; rfl
    · by_cases h0 : b = 0x00#8
      · rw [h0, selectedBy_alZero]; rfl
      · rw [selectedBy_alLen (by bv_omega) (Nat.le_of_not_lt h)]; rfl
  | accumulatingPayload =>
    cases h : g.lastByte with
    | true => rw [selectedBy_apLast b h]; rfl
    | false => rw [selectedBy_apMore b h]; rfl
  | awaitChecksum => rfl
  | awaitEnd =>
    by_cases h : b = 0x03#8
    · cases hc : g.checksumOk with
      | true => rw [h, selectedBy_aeOk hc]; rfl
      | false => rw [h, selectedBy_aeBadchk hc]; rfl
    · rw [selectedBy_aeBadend h]; rfl
  | unused5 | unused6 | unused7 => cases hp

/-- In an unused phase a byte selects an instruction whose step word agrees on the bits above the byte that its row fixes (46
R162). -/
theorem encode_selectedBy_unused {p : Phase} (hp : p.named = false) (b : Byte) (g : Guards) (c : Config.Params) :
    encode (selectedBy p b g c) &&& ((selectedBy p b g c).row c).mask =
      StepWord.pack false true p.code b &&& ((selectedBy p b g c).row c).mask := by
  cases p with
  | unused5 => clear hp; simp only [selectedBy, Instr.row, encode]; revert b; decide
  | unused6 | unused7 => clear hp; simp only [selectedBy, Instr.row, encode]; revert b; decide
  | _ => cases hp

/-- No byte in a named phase selects an RSVD.STATE row. -/
theorem selectedBy_ne_reserved {p : Phase} (hp : p.named = true) (b : Byte) (g : Guards) (c : Config.Params) :
    selectedBy p b g c ≠ .rsvdState5 ∧ selectedBy p b g c ≠ .rsvdState67 := by
  have h := rowPhase_selectedBy hp b g c
  constructor <;> intro he <;> rw [he] at h <;> cases h

/-! ### The rows as printed -/

/-- A row applies to a packed word when each field under its mask is its pattern's and its guard holds. -/
theorem Row.applies_pack (w : Row) (r v : Bool) (p : BitVec 3) (b : Byte) (g : Guards) :
    w.applies (StepWord.pack r v p b) g =
      (decide ((r && w.mask.getLsbD 12) = w.pattern.getLsbD 12 ∧ (v && w.mask.getLsbD 11) = w.pattern.getLsbD 11 ∧
        p &&& w.mask.extractLsb' 8 3 = w.pattern.extractLsb' 8 3 ∧
        b &&& w.mask.extractLsb' 0 8 = w.pattern.extractLsb' 0 8) && w.guard b g) := by
  have h : StepWord.pack r v p b &&& w.mask = w.pattern ↔
      (r && StepWord.rst w.mask) = StepWord.rst w.pattern ∧ (v && StepWord.inValid w.mask) = StepWord.inValid w.pattern ∧
        p &&& StepWord.stateBits w.mask = StepWord.stateBits w.pattern ∧
        b &&& StepWord.inByte w.mask = StepWord.inByte w.pattern := by
    rw [← StepWord.pack_inj, ← StepWord.pack_and_pack, StepWord.pack_fields, StepWord.pack_fields]
  rw [Row.applies, StepWord.inByte_pack, decide_eq_decide.2 h]
  rfl

/-- With rst only INIT's row applies. -/
theorem rows_filter_init (c : Config.Params) (v : Bool) (p : BitVec 3) (b : Byte) (g : Guards) :
    (rows c).filter (fun w => w.applies (StepWord.pack true v p b) g) = [Instr.init.row c] := by
  simp [rows, Row.applies_pack, Instr.row]

/-- Without rst and without a byte only IDLE's row applies. -/
theorem rows_filter_idle (c : Config.Params) (p : BitVec 3) (b : Byte) (g : Guards) :
    (rows c).filter (fun w => w.applies (StepWord.pack false false p b) g) = [Instr.idle.row c] := by
  simp [rows, Row.applies_pack, Instr.row]

/-- With a byte only the row of the instruction its phase selects applies: in each phase the guards exclude each other. -/
theorem rows_filter_byte (c : Config.Params) (p : Phase) (b : Byte) (g : Guards) :
    (rows c).filter (fun w => w.applies (StepWord.pack false true p.code b) g) = [(selectedBy p b g c).row c] := by
  have hb : b &&& 0xFF#8 = b := BitVec.and_allOnes
  cases p with
  | awaitStart =>
    by_cases h : b = 0x02#8
    · subst h; simp [rows, Row.applies_pack, Instr.row, Phase.code, selectedBy_asStart]
    · simp [rows, Row.applies_pack, Instr.row, Phase.code, selectedBy_asSkip h, h, hb]
  | awaitLength =>
    by_cases h : c.maxPayload < b.toNat
    · have h0 : b ≠ 0#8 := by rintro rfl; exact absurd h (Nat.not_lt_zero _)
      simp [rows, Row.applies_pack, Instr.row, Phase.code, selectedBy_alOver h, h, h0, hb]
    · by_cases h0 : b = 0#8
      · subst h0; simp [rows, Row.applies_pack, Instr.row, Phase.code, selectedBy_alZero]
      · have h1 : 1 ≤ b.toNat := by bv_omega
        simp [rows, Row.applies_pack, Instr.row, Phase.code, selectedBy_alLen h1 (Nat.le_of_not_lt h), h, h0, h1, hb,
          Nat.le_of_not_lt h]
  | accumulatingPayload =>
    cases h : g.lastByte with
    | true => simp [rows, Row.applies_pack, Instr.row, Phase.code, selectedBy_apLast b h, h]
    | false => simp [rows, Row.applies_pack, Instr.row, Phase.code, selectedBy_apMore b h, h]
  | awaitEnd =>
    by_cases h : b = 0x03#8
    · subst h
      cases hc : g.checksumOk with
      | true => simp [rows, Row.applies_pack, Instr.row, Phase.code, selectedBy_aeOk hc, hc]
      | false => simp [rows, Row.applies_pack, Instr.row, Phase.code, selectedBy_aeBadchk hc, hc]
    · simp [rows, Row.applies_pack, Instr.row, Phase.code, selectedBy_aeBadend h, h, hb]
  | awaitChecksum | unused5 | unused6 | unused7 => simp [rows, Row.applies_pack, Instr.row, Phase.code, selectedBy]

/-- Exactly one row of the printed map applies, the decoded instruction's (30_encoding R81). -/
theorem rows_filter_applies (c : Config.Params) (sw : StepWord) (g : Guards) :
    (rows c).filter (fun w => w.applies sw g) = [(decode sw g c).row c] := by
  obtain ⟨r, v, p, b, rfl⟩ := StepWord.exists_pack sw
  cases r with
  | true => rw [rows_filter_init, decode_pack, if_pos rfl]
  | false =>
    cases v with
    | true => rw [rows_filter_byte, decode_pack_byte]
    | false => rw [rows_filter_idle, decode_pack]; rfl

end Sys2Proof
end

section
/-! The statements about the step word: encoding, decoding and the printed map. -/

namespace Sys2Proof.Proofs

open Sys2Proof.Machine

/-- Settles O1: row by row, the encoded word packs the row's phase and byte, and that byte selects the row. -/
theorem encodeDecodeRoundTrip : Obligations.EncodeDecodeRoundTrip :=
  fun _ i hw => ⟨fun _ hg => decode_encode hw hg, i.exists_admits⟩

/-- Settles O2: in a named phase encoding gives the whole word back, elsewhere its fixed bits. -/
theorem decodedInstructionFitsItsWord : Obligations.DecodedInstructionFitsItsWord := by
  intro c sw g
  obtain ⟨r, v, p, b, rfl⟩ := StepWord.exists_pack sw
  cases r with
  | true =>
    rw [decode_pack, if_pos rfl]
    have hm : (Instr.init.row c).mask = StepWord.pack true false 0 0 := rfl
    exact ⟨rfl, rfl, by rw [hm, encode, StepWord.pack_and_pack, StepWord.pack_and_pack]; simp⟩
  | false =>
    cases v with
    | false =>
      rw [decode_pack, if_neg Bool.false_ne_true, if_neg Bool.false_ne_true]
      have hm : (Instr.idle.row c).mask = StepWord.pack true true 0 0 := rfl
      exact ⟨rfl, rfl, by rw [hm, encode, StepWord.pack_and_pack, StepWord.pack_and_pack]; simp⟩
    | true =>
      rw [decode_pack_byte]
      refine ⟨selectedBy_wellFormed .., selectedBy_admits .., ?_⟩
      cases hp : p.named with
      | true => rw [encode_selectedBy hp]
      | false => exact encode_selectedBy_unused hp b g c

/-- Settles O3: the rows that apply are found by the word's fields; an RSVD.STATE row needs state bits above 4. -/
theorem exactlyOneRowApplies : Obligations.ExactlyOneRowApplies := by
  intro c sw g
  refine ⟨by rw [rows_filter_applies]; rfl, fun hle => ?_⟩
  obtain ⟨r, v, p, b, rfl⟩ := StepWord.exists_pack sw
  rw [StepWord.stateBits_pack] at hle
  rw [decode_pack]
  split
  · exact ⟨nofun, nofun⟩
  · split
    · exact selectedBy_ne_reserved (Phase.named_of_code_le hle) b g c
    · exact ⟨nofun, nofun⟩

/-- Settles O4, by the sizes of the fields. -/
theorem stepWordLayout : Obligations.StepWordLayout :=
  ⟨fun _ => StepWord.toNat_pack .., rfl, rfl, rfl, rfl, rfl, rfl, rfl, rfl⟩

/-- Settles O5, by running the decoder on the printed words. -/
theorem printedStepWordsDecode : Obligations.PrintedStepWordsDecode := by
  unfold Obligations.PrintedStepWordsDecode
  decide

end Sys2Proof.Proofs
end

section
/-! SUPPORT. The step of a byte in a ready state, why a step is refused, and the placing of a step word. -/

namespace Sys2Proof.Machine

open Sys2Proof.Safety

/-- The step of a byte in a ready state completes as the instruction the phase selects by that byte (40 R101). -/
theorem step_of_byte {s : State} {b : Byte} (hs : Ready s) (hb : s.nextCycle = Cycle.ofByte b) :
    ∃ t, Effect Config.hardware s.takeCycle (selectedBy s.state b s.guards) t ∧ step s = .next t := by
  obtain ⟨t, ht⟩ := stepAt_completes hs
  have hf : s.fetch = selectedBy s.state b s.guards :=
    (State.fetch_of_byte (by rw [hb]; rfl) (by rw [hb]; rfl)).trans (by rw [hb]; rfl)
  exact ⟨t, hf ▸ stepAt_next ht, (step_eq_stepAt s).trans ht⟩

/-- A selected row is refused only before INIT (70 R201). -/
theorem RunsRow.refused {c : Config.Params} {s : State} {r : Result} {x : Refusal} (h : RunsRow c s r) (hr : r = .refused x) :
    x = .consumeBeforeInit := by
  obtain ⟨e, rfl, he⟩ := h
  cases hi : s.initDone with
  | false => simpa [Ops.consumeRow, hi, eq_comm] using hr
  | true =>
    by_cases hl : s.Legal c
    · obtain ⟨t, ht⟩ := he hl
      rw [Ops.consumeRow_eq hi rfl hl, ht] at hr
      cases hr
    · obtain ⟨f, hf⟩ := RunsRow.faults ⟨e, rfl, he⟩ hi hl
      rw [hf] at hr
      cases hr

/-- A step is refused only for a byte before INIT: it always runs a row that applies (30_encoding R81). -/
theorem stepAt_refused {c : Config.Params} {s : State} {x : Refusal} (h : stepAt c s = .refused x) :
    x = .consumeBeforeInit := by
  cases hr : s.nextCycle.rst with
  | true => rw [stepAt_of_rst hr] at h; cases h
  | false =>
    cases hv : s.nextCycle.inValid with
    | false => rw [stepAt_of_idle hr hv] at h; cases h
    | true =>
      cases hn : s.state.named with
      | true => exact (stepAt_of_byte hr hv hn).refused h
      | false => rw [stepAt_of_unnamed hr hv hn] at h; cases h

/-! ### Placing a step word (log entry 8) -/

/-- The placed word's inputs stand before the inputs that were to come. -/
theorem Ops.placeWord_inputs (sw : StepWord) (s : State) :
    (Ops.placeWord sw s).inputs =
      { rst := StepWord.rst sw, inValid := StepWord.inValid sw, inByte := StepWord.inByte sw } :: s.inputs := by
  unfold Ops.placeWord; dsimp only; split <;> rfl

/-- The placed word's state bits are in the phase register. -/
theorem Ops.placeWord_state (sw : StepWord) (s : State) :
    (Ops.placeWord sw s).state = Phase.ofCode (StepWord.stateBits sw) := by
  unfold Ops.placeWord; dsimp only; split <;> rfl

/-- The registers a phase is set up with give the guards of reset. -/
theorem Ops.phaseRegisters_guards (s : State) : (Ops.phaseRegisters s).guards = resetGuards := by
  unfold Ops.phaseRegisters
  by_cases h : s.state = .accumulatingPayload <;>
    simp [h, State.guards, Flags.lastByte, Flags.checksumOk, resetGuards]

/-- A placed word is read with the guards of reset. -/
theorem Ops.placeWord_guards (sw : StepWord) (s : State) : (Ops.placeWord sw s).guards = resetGuards := by
  unfold Ops.placeWord
  dsimp only
  split
  · next h => exact h.2
  · exact Ops.phaseRegisters_guards _

/-- The word placed is the coming cycle's. -/
theorem Ops.placeWord_stepWord (sw : StepWord) (s : State) : (Ops.placeWord sw s).stepWord = sw := by
  rw [State.stepWord, State.nextCycle_cons _ _ _ (Ops.placeWord_inputs sw s), Ops.placeWord_state, Phase.code_ofCode]
  exact StepWord.pack_fields sw

/-- What a table word decodes to is what its low 13 bits decode to with the guards of reset. -/
theorem decodeTableWord_eq_some {n w : Nat} {i : Instr} (h : decodeTableWord n w = some i) :
    w % 2 ^ n < 8192 ∧ decode (BitVec.ofNat 13 (w % 2 ^ n)) resetGuards = i := by
  unfold decodeTableWord decodeNat at h
  by_cases hw : w % 2 ^ n < 8192
  · exact ⟨hw, by simpa [hw] using h⟩
  · simp [hw] at h

end Sys2Proof.Machine
end

section
/-! The statements about the step and the word it runs: the placed word, the row that is never lacking, and the markers. -/

namespace Sys2Proof.Proofs

open Sys2Proof.Machine Sys2Proof.Safety

/-- Settles O7: the placed state has the given word and reset's guards, which are what the table word is decoded with. -/
theorem placedWordRunsNext : Obligations.PlacedWordRunsNext := by
  intro s n w i h
  obtain ⟨hw, hd⟩ := decodeTableWord_eq_some h
  have hp : s.withFetchWord n w = Ops.placeWord (BitVec.ofNat 13 (w % 2 ^ n)) s := if_pos hw
  have hf : (s.withFetchWord n w).fetch = i := by
    rw [State.fetch, hp, Ops.placeWord_stepWord, Ops.placeWord_guards, hd]
  exact ⟨hf, by rw [hp, Ops.placeWord_inputs]; rfl, by rw [step, hf]⟩

/-- Settles O48: the one refusal a step can give is that of a byte before INIT. -/
theorem stepNeverLacksARow : Obligations.StepNeverLacksARow := by
  intro s
  rw [step_eq_stepAt]
  exact ⟨fun h => (nomatch stepAt_refused h), fun m h => (nomatch stepAt_refused h)⟩

/-- Settles O57: in each phase the marker selects the row that any byte of its value selects there, and that row's effect is the
next state. -/
theorem markersArePositional : Obligations.MarkersArePositional := by
  intro s m hs hm hb
  obtain ⟨t, he, ht⟩ := step_of_byte hs hb
  rw [ht]
  have hlen : 1 ≤ m.toNat ∧ m.toNat ≤ Config.hardware.maxPayload := by rcases hm with rfl | rfl <;> decide
  refine ⟨fun hp h2 => ?_, fun hp h3 => ?_, fun hp => ?_, fun hp => ?_, fun hp => ?_, fun hp h2 => ?_, fun hp h3 => ?_⟩ <;>
    rw [hp] at he
  · subst h2; rw [selectedBy_asStart] at he; cases he; rfl
  · subst h3; rw [selectedBy_asSkip (by decide)] at he; cases he; rfl
  · rw [selectedBy_alLen hlen.1 hlen.2] at he; cases he; rfl
  · by_cases hc : s.receivedCount.toNat + 1 = s.declaredLength.toNat
    · rw [selectedBy_apLast _ (decide_eq_true hc)] at he; rw [if_pos hc]; cases he; rfl
    · rw [selectedBy_apMore _ (decide_eq_false hc)] at he; rw [if_neg hc]; cases he; rfl
  · cases he; rfl
  · subst h2; rw [selectedBy_aeBadend (by decide)] at he; cases he; rfl
  · subst h3
    by_cases hc : s.computedChecksum = s.receivedChecksum
    · rw [selectedBy_aeOk (decide_eq_true hc)] at he; rw [if_pos hc]; cases he; rfl
    · rw [selectedBy_aeBadchk (decide_eq_false hc)] at he; rw [if_neg hc]; cases he; rfl

end Sys2Proof.Proofs
end

section
/-! SUPPORT. Feeding the bytes of an attempt: what each leads to, and which bytes an attempt has used up in each phase. -/

namespace Sys2Proof.Machine

open Sys2Proof.Safety

/-! ### Bytes that report no frame -/

/-- n bytes fed in s, each reporting NoFrame, have led to t in phase p with the payload view q. -/
structure Fed (s t : State) (n : Nat) (p : Phase) (q : List Byte) : Prop where
  ready : Ready t
  state : t.state = p
  view : t.payloadView = q
  inputs : t.inputs = s.inputs
  observed : t.observed = List.replicate n .noFrame ++ s.observed

/-- The next byte fed runs the row it selects; unless that is AE.OK it is one byte more that reports NoFrame. -/
theorem Fed.next {s t : State} {n : Nat} {p : Phase} {q : List Byte} {b : Byte} {i : Instr} (h : Fed s t n p q)
    (hsel : selectedBy p b t.guards = i) (hi : i.isConsume = true) (ho : i ≠ .aeOk) (bs : List Byte) :
    ∃ u, Effect Config.hardware t i u ∧ feed (b :: bs) t = feed bs u ∧ Fed s u (n + 1) u.state u.payloadView := by
  obtain ⟨hr, rfl, -, hin, hob⟩ := h
  obtain ⟨u, he, hf⟩ := feed_cons hr b bs
  rw [hsel] at he
  refine ⟨u, he, hf, he.ready hr, rfl, rfl, he.inputs_eq.trans hin, ?_⟩
  rw [he.observed_eq, if_pos hi, if_neg ho, hob]
  rfl

/-- An append lengthens the payload view by its byte and keeps the length register (43 R130). -/
theorem Effect.append_view {c : Config.Params} {i : Instr} {s t : State} {b : Byte} (h : Effect c s i t)
    (hi : i = .apMore b ∨ i = .apLast b) :
    t.payloadView = s.payloadView ++ [b] ∧ t.declaredLength = s.declaredLength := by
  have hlt : s.Legal c → s.state = .accumulatingPayload → s.receivedCount.toNat < 255 :=
    fun hl hp => Nat.lt_of_lt_of_le (hl.storeAddress_lt hp) c.le_255
  rcases hi with rfl | rfl
  · cases h with | apMore _ _ hl hp => exact ⟨State.payloadView_append (hlt hl hp) rfl rfl, rfl⟩
  · cases h with | apLast _ _ hl hp => exact ⟨State.payloadView_append (hlt hl hp) rfl rfl, rfl⟩

/-- The bytes still missing in AccumulatingPayload are stored one by one and lead to AwaitChecksum (43 R131, R132). -/
theorem Fed.payload {s t : State} {n : Nat} {q p : List Byte} (h : Fed s t n .accumulatingPayload q)
    (hl : q.length + p.length = t.declaredLength.toNat) (bs : List Byte) :
    ∃ u, feed (p ++ bs) t = feed bs u ∧ Fed s u (n + p.length) .awaitChecksum (q ++ p) := by
  induction p generalizing t n q with
  | nil =>
    obtain ⟨⟨-, -, -, -, h4, -⟩, hp, rfl, -, -⟩ := h
    obtain ⟨-, hlt⟩ := h4 hp
    rw [State.payloadView_length, List.length_nil] at hl
    omega
  | cons b p ih =>
    have hq : t.receivedCount.toNat = q.length := by rw [← h.view, State.payloadView_length]
    rw [List.length_cons] at hl
    by_cases hlast : p = []
    · subst hlast
      have hg : t.guards.lastByte = true := decide_eq_true (by rw [List.length_nil] at hl; omega)
      obtain ⟨u, he, hf, hu⟩ := h.next (selectedBy_apLast b hg _) rfl nofun bs
      obtain ⟨hv, -⟩ := he.append_view (.inr rfl)
      have hs : u.state = .awaitChecksum := by cases he; rfl
      rw [hv, hs, h.view] at hu
      exact ⟨u, hf, hu⟩
    · have hpos : 0 < p.length := List.length_pos_iff.2 hlast
      have hg : t.guards.lastByte = false := decide_eq_false (by omega)
      obtain ⟨u, he, hf, hu⟩ := h.next (selectedBy_apMore b hg _) rfl nofun (p ++ bs)
      obtain ⟨hv, hd⟩ := he.append_view (.inl rfl)
      have hs : u.state = .accumulatingPayload := by cases he; rfl
      rw [hv, hs, h.view] at hu
      obtain ⟨w, hw, hfw⟩ := ih hu (by rw [hd, List.length_append, List.length_singleton]; omega)
      refine ⟨w, hf.trans hw, ?_⟩
      rw [List.append_assoc, List.singleton_append, Nat.add_right_comm, Nat.add_assoc] at hfw
      exact hfw

/-- In AwaitLength the length byte of a payload that fits and then the payload lead to AwaitChecksum (42 R122, R123). -/
theorem Fed.body {s t : State} {n : Nat} {q p : List Byte} (h : Fed s t n .awaitLength q)
    (hl : p.length ≤ Config.hardware.maxPayload) (bs : List Byte) :
    ∃ u, feed (BitVec.ofNat 8 p.length :: p ++ bs) t = feed bs u ∧ Fed s u (n + 1 + p.length) .awaitChecksum p := by
  have hn : (BitVec.ofNat 8 p.length).toNat = p.length :=
    (BitVec.toNat_ofNat ..).trans (Nat.mod_eq_of_lt (Nat.lt_of_le_of_lt hl (by decide)))
  have hc : t.receivedCount = 0 := by
    obtain ⟨⟨-, -, -, h3, -⟩, hp, -, -, -⟩ := h
    exact (h3 hp).2.1
  by_cases h0 : p = []
  · subst h0
    obtain ⟨u, he, hf, hu⟩ := h.next (selectedBy_alZero _ _) rfl nofun bs
    have hs : u.state = .awaitChecksum ∧ u.payloadView = [] := by
      cases he; exact ⟨rfl, State.payloadView_of_zero hc⟩
    rw [hs.1, hs.2] at hu
    exact ⟨u, hf, hu⟩
  · have hpos : 0 < p.length := List.length_pos_iff.2 h0
    obtain ⟨u, he, hf, hu⟩ := h.next
      (selectedBy_alLen (l := BitVec.ofNat 8 p.length) (by rw [hn]; exact hpos) (by rw [hn]; exact hl) _) rfl nofun (p ++ bs)
    have hs : u.state = .accumulatingPayload ∧ u.payloadView = [] ∧ u.declaredLength = BitVec.ofNat 8 p.length := by
      cases he; exact ⟨rfl, State.payloadView_of_zero hc, rfl⟩
    obtain ⟨hp, hv, hd⟩ := hs
    rw [hp, hv] at hu
    obtain ⟨w, hw, hfw⟩ := hu.payload (p := p) (by rw [hd, hn, List.length_nil, Nat.zero_add]) bs
    exact ⟨w, hf.trans hw, hfw⟩

/-- In AwaitStart the bytes of a frame up to its payload lead to AwaitChecksum (30_encoding R76). -/
theorem feed_body {s : State} {p : List Byte} (hs : Ready s) (hp : s.state = .awaitStart)
    (hl : p.length ≤ Config.hardware.maxPayload) (bs : List Byte) :
    ∃ u, feed ([0x02#8, BitVec.ofNat 8 p.length] ++ p ++ bs) s = feed bs u ∧ Fed s u (p.length + 2) .awaitChecksum p := by
  have h : Fed s s 0 .awaitStart s.payloadView := ⟨hs, hp, rfl, rfl, rfl⟩
  obtain ⟨t, he, hf, ht⟩ := h.next (selectedBy_asStart _ _) rfl nofun (BitVec.ofNat 8 p.length :: p ++ bs)
  have hs : t.state = .awaitLength := by cases he; rfl
  rw [hs] at ht
  obtain ⟨u, hu, hfu⟩ := ht.body hl bs
  rw [show 0 + 1 + 1 + p.length = p.length + 2 by omega] at hfu
  exact ⟨u, hf.trans hu, hfu⟩

/-- In AwaitChecksum the next byte is kept as the received checksum and leads to AwaitEnd (44 R140). -/
theorem Fed.checksum {s t : State} {n : Nat} {q : List Byte} (h : Fed s t n .awaitChecksum q) (b : Byte) (bs : List Byte) :
    ∃ u, feed (b :: bs) t = feed bs u ∧ Fed s u (n + 1) .awaitEnd q ∧ u.receivedChecksum = b := by
  obtain ⟨u, he, hf, hu⟩ := h.next (b := b) rfl rfl nofun bs
  have hq := h.view
  cases he
  exact ⟨_, hf, hq ▸ hu, rfl⟩

/-- The frame of a payload that fits, fed in AwaitStart, reports that payload on its last byte and nothing before (30_encoding
R84). -/
theorem feed_frame {s : State} {p : List Byte} (hs : Ready s) (hp : s.state = .awaitStart)
    (hl : p.length ≤ Config.hardware.maxPayload) :
    ∃ t, feed (frame p) s = .next t ∧ t.state = .awaitStart ∧ t.inputs = s.inputs ∧ t.payloadView = p ∧
      t.observed = .frameReady p :: (List.replicate (p.length + 3) .noFrame ++ s.observed) := by
  obtain ⟨u, hfu, hu⟩ := feed_body hs hp hl [xorBytes p, 0x03#8]
  obtain ⟨v, hfv, hv, hc⟩ := hu.checksum (xorBytes p) [0x03#8]
  obtain ⟨⟨hi, hlegal⟩, hpv, rfl, hin, hob⟩ := hv
  have hx : v.computedChecksum = v.receivedChecksum := by
    obtain ⟨-, h2, -⟩ := hlegal
    exact h2.trans hc.symm
  obtain ⟨t, he, hf⟩ := feed_cons ⟨hi, hlegal⟩ 0x03#8 []
  rw [hpv, selectedBy_aeOk (decide_eq_true hx)] at he
  refine ⟨t, (hfu.trans hfv).trans hf, ?_⟩
  have ho := he.observed_eq
  rw [hob] at ho
  cases he
  exact ⟨rfl, hin, rfl, ho⟩

/-! ### Runs over more bytes -/

/-- Bytes fed in a ready state lead to a ready state. -/
theorem feed_ready (bs : List Byte) {s : State} (hs : Ready s) : ∃ t, feed bs s = .next t ∧ Ready t :=
  run_ready bs.length (s := offer bs s) hs

/-- An instruction has one effect in a state. -/
theorem Effect.unique {c : Config.Params} {i : Instr} {s t u : State} (h : Effect c s i t) (h' : Effect c s i u) : t = u := by
  cases h <;> cases h' <;> rfl

/-- Bytes fed after others are fed where those have led to. -/
theorem feed_append {s u : State} {as : List Byte} (hs : Ready s) (h : feed as s = .next u) (bs : List Byte) :
    feed (as ++ bs) s = feed bs u := by
  induction as generalizing s with
  | nil => cases h; rfl
  | cons a as ih =>
    obtain ⟨t, he, hf⟩ := feed_cons hs a (as ++ bs)
    obtain ⟨t', he', hf'⟩ := feed_cons hs a as
    cases he.unique he'
    exact hf.trans (ih (he.ready hs) (hf'.symm.trans h))

/-- One byte more runs the row it selects where the bytes before have led to. -/
theorem feed_snoc {s u : State} {bs : List Byte} (hs : Ready s) (h : feed bs s = .next u) (hu : Ready u) (b : Byte) :
    ∃ t, Effect Config.hardware u (selectedBy u.state b u.guards) t ∧ feed (bs ++ [b]) s = .next t := by
  obtain ⟨t, he, hf⟩ := feed_cons hu b []
  exact ⟨t, he, (feed_append hs h [b]).trans hf⟩

/-! ### The bytes of an attempt -/

/-- The bytes the attempt under way has used up, as the registers and the payload view hold them. -/
def State.attemptBytes (s : State) : List Byte :=
  match s.state with
  | .awaitLength => [0x02#8]
  | .accumulatingPayload | .awaitChecksum => [0x02#8, s.declaredLength] ++ s.payloadView
  | .awaitEnd => [0x02#8, s.declaredLength] ++ s.payloadView ++ [s.receivedChecksum]
  | _ => []

/-- In AwaitStart no attempt is under way. -/
theorem State.attemptBytes_awaitStart {s : State} (hp : s.state = .awaitStart) : s.attemptBytes = [] := by
  rw [State.attemptBytes, hp]

theorem State.attemptBytes_awaitLength {s : State} (hp : s.state = .awaitLength) : s.attemptBytes = [0x02#8] := by
  rw [State.attemptBytes, hp]

theorem State.attemptBytes_payload {s : State} (hp : s.state = .accumulatingPayload ∨ s.state = .awaitChecksum) :
    s.attemptBytes = [0x02#8, s.declaredLength] ++ s.payloadView := by
  rcases hp with hp | hp <;> rw [State.attemptBytes, hp]

theorem State.attemptBytes_awaitEnd {s : State} (hp : s.state = .awaitEnd) :
    s.attemptBytes = [0x02#8, s.declaredLength] ++ s.payloadView ++ [s.receivedChecksum] := by
  rw [State.attemptBytes, hp]

/-- A CONSUME adds its byte to the bytes of the attempt or leads back to AwaitStart. -/
theorem Effect.attemptBytes {c : Config.Params} {i : Instr} {s t : State} (h : Effect c s i t) (hi : i.isConsume = true) :
    t.state = .awaitStart ∨ t.attemptBytes = s.attemptBytes ++ [StepWord.inByte (encode i)] := by
  have hempty (hl : s.Legal c) (hp : s.state = .awaitLength) : s.payloadView = [] := by
    obtain ⟨-, -, h3, -⟩ := hl
    obtain ⟨-, hc, -⟩ := h3 hp
    exact State.payloadView_of_zero hc
  have happend (b : Byte) (hb : i = .apMore b ∨ i = .apLast b) : t.payloadView = s.payloadView ++ [b] :=
    (h.append_view hb).1
  cases h with
  | init | idle => cases hi
  | asSkip _ _ _ hp => exact .inl hp
  | alOver | aeOk | aeBadchk | aeBadend => exact .inl rfl
  | asStart _ _ hp =>
    rw [State.attemptBytes_awaitStart hp]
    exact .inr rfl
  | alZero _ hl hp =>
    rw [State.attemptBytes_awaitLength hp]
    exact .inr (congrArg ([0x02#8, 0x00#8] ++ ·) (hempty hl hp))
  | alLen l _ hl hp =>
    rw [State.attemptBytes_awaitLength hp, encode, StepWord.inByte_pack]
    exact .inr (congrArg ([0x02#8, l] ++ ·) (hempty hl hp))
  | apMore b _ _ hp =>
    rw [State.attemptBytes_payload (.inl hp), encode, StepWord.inByte_pack]
    exact .inr (congrArg ([0x02#8, s.declaredLength] ++ ·) (happend b (.inl rfl)))
  | apLast b _ _ hp =>
    rw [State.attemptBytes_payload (.inl hp), encode, StepWord.inByte_pack]
    exact .inr (congrArg ([0x02#8, s.declaredLength] ++ ·) (happend b (.inr rfl)))
  | acChk b _ _ hp =>
    rw [State.attemptBytes_payload (.inr hp), encode, StepWord.inByte_pack]
    exact .inr rfl

/-- Every row a named phase selects is a CONSUME (00_scope R17). -/
theorem isConsume_of_rowPhase {i : Instr} {p : Phase} (h : rowPhase i = some p) : i.isConsume = true := by
  cases i with
  | init | idle => cases h
  | _ => rfl

/-- The bytes fed in AwaitStart are some that lead back there and then those of the attempt under way. -/
theorem feed_attempt {s t : State} {bs : List Byte} (hs : Ready s) (hp : s.state = .awaitStart) (h : feed bs s = .next t) :
    ∃ g, bs = g ++ t.attemptBytes ∧ ∃ u, feed g s = .next u ∧ u.state = .awaitStart := by
  induction bs using List.reverseRecOn generalizing t with
  | nil => cases h; exact ⟨[], (State.attemptBytes_awaitStart hp).symm, s, rfl, hp⟩
  | append_singleton bs b ih =>
    obtain ⟨w, hw, hrw⟩ := feed_ready bs hs
    obtain ⟨g, hg, hgu⟩ := ih hw
    obtain ⟨t', he, hf⟩ := feed_snoc hs hw hrw b
    cases hf.symm.trans h
    obtain ⟨-, -, -, -, -, -, -, hn⟩ := hrw
    have hc := isConsume_of_rowPhase (rowPhase_selectedBy hn b w.guards Config.hardware)
    rcases he.attemptBytes hc with hst | hat
    · exact ⟨bs ++ [b], by rw [State.attemptBytes_awaitStart hst, List.append_nil], t, h, hst⟩
    · rw [encode_selectedBy hn, StepWord.inByte_pack] at hat
      exact ⟨g, by rw [hat, hg, List.append_assoc], hgu⟩

/-- A byte whose step reports a frame is the end marker in AwaitEnd with equal checksums, and the frame is the payload view (45
R151). -/
theorem Effect.reports {c : Config.Params} {s t : State} {b : Byte} {v : List Byte} (hs : Ready s c)
    (h : Effect c s (selectedBy s.state b s.guards c) t) (hob : t.observed.head? = some (.frameReady v)) :
    s.state = .awaitEnd ∧ s.computedChecksum = s.receivedChecksum ∧ b = 0x03#8 ∧ v = s.payloadView := by
  obtain ⟨-, -, -, -, -, -, -, hn⟩ := hs
  have hc := isConsume_of_rowPhase (rowPhase_selectedBy hn b s.guards c)
  have hb : StepWord.inByte (encode (selectedBy s.state b s.guards c)) = b := by
    rw [encode_selectedBy hn, StepWord.inByte_pack]
  rw [h.observed_eq, if_pos hc] at hob
  generalize selectedBy s.state b s.guards c = i at h hb hob
  by_cases hi : i = .aeOk
  · subst hi
    cases h with
    | aeOk _ _ hp hx => exact ⟨hp, hx, hb.symm.trans (StepWord.inByte_pack ..), by simpa using hob.symm⟩
  · simp [hi] at hob

/-- In AwaitEnd with equal checksums the attempt's bytes lack only the end marker of the frame of the payload view. -/
theorem State.attemptBytes_end_eq_frame {s : State} (hl : s.Legal) (hp : s.state = .awaitEnd)
    (hc : s.computedChecksum = s.receivedChecksum) : s.attemptBytes ++ [0x03#8] = frame s.payloadView := by
  obtain ⟨-, h2, -, -, -, h6, -⟩ := hl
  have hd : s.declaredLength = BitVec.ofNat 8 s.payloadView.length := by simp [h6 hp]
  have hx : s.receivedChecksum = xorBytes s.payloadView := hc.symm.trans h2
  rw [State.attemptBytes_awaitEnd hp, hx, hd, frame, List.append_assoc]
  rfl

end Sys2Proof.Machine
end

section
/-! The statements about whole frames: a frame is decoded, and nothing else is. -/

namespace Sys2Proof.Proofs

open Sys2Proof.Machine Sys2Proof.Safety

/-- Settles O50: the garbage is skipped, and the frame is decoded from where it leads to. -/
theorem wellFormedFrameIsDecoded : Obligations.WellFormedFrameIsDecoded := by
  intro s g p hs hp hg hl
  have hs' : Ready { s with observed := List.replicate g.length .noFrame ++ s.observed } := hs
  obtain ⟨t, hf, hst, hin, hv, hob⟩ := feed_frame hs' hp hl
  refine ⟨t, (feed_garbage hs hp hg _).trans hf, hst, hin, by rw [← State.payloadView_length, hv], hv, ?_⟩
  rw [hob, ← List.append_assoc, List.replicate_append_replicate, Nat.add_comm _ g.length, Nat.add_assoc]

/-- Settles O53: only AE.OK reports a frame, and the bytes its attempt has used up are that frame. -/
theorem acceptedLanguage : Obligations.AcceptedLanguage := by
  intro s bs v hs hp hne
  constructor
  · rintro ⟨t, h, hob⟩
    obtain ⟨as, b, rfl⟩ := (List.eq_nil_or_concat' bs).resolve_left hne
    obtain ⟨u, hu, hru⟩ := feed_ready as hs
    obtain ⟨t', he, hf⟩ := feed_snoc hs hu hru b
    cases hf.symm.trans h
    obtain ⟨hpu, hc, rfl, rfl⟩ := he.reports hru hob
    obtain ⟨-, hlu⟩ := hru
    obtain ⟨g, rfl, hg⟩ := feed_attempt hs hp hu
    refine ⟨g, by rw [List.append_assoc, State.attemptBytes_end_eq_frame hlu hpu hc], ?_, hg⟩
    obtain ⟨⟨hle, hmax⟩, -⟩ := hlu
    exact (State.payloadView_length u).trans_le (hle.trans hmax)
  · rintro ⟨g, rfl, hl, u, hu, hpu⟩
    obtain ⟨u', hu', hru⟩ := feed_ready g hs
    cases hu'.symm.trans hu
    obtain ⟨t, hf, -, -, -, hob⟩ := feed_frame hru hpu hl
    exact ⟨t, (feed_append hs hu _).trans hf, by rw [hob]; rfl⟩

end Sys2Proof.Proofs
end

section
/-! SUPPORT. The operation as 40_consume_dispatch lists it: the effect of the selected row is `consume`'s, the phase follows the
next-state table, and what that says of the bytes between two visits of AwaitStart; and the XOR laws. -/

namespace Sys2Proof.Machine

open Sys2Proof.Safety

/-! ### `consume` and the clocked wrapper (40 R100, R101) -/

/-- What the wrapper makes of s when `consume` answers r: the new state, with the result added to the record of s (70 R211). -/
def State.withResult (s : State) (r : State × Bool) : State :=
  { r.1 with observed := (if r.2 then .frameReady r.1.payloadView else .noFrame) :: s.observed }

/-- The wrapper in a cycle with rst. -/
theorem clockEdge_of_rst {c : Config.Params} {s : State} (h : s.nextCycle.rst = true) :
    clockEdge s c = Ops.initialize s.takeCycle := if_pos h

/-- The wrapper in a cycle without a byte. -/
theorem clockEdge_of_idle {c : Config.Params} {s : State} (h : s.nextCycle.rst = false)
    (hv : s.nextCycle.inValid = false) : clockEdge s c = s.takeCycle :=
  (if_neg (Bool.eq_false_iff.1 h)).trans (if_neg (Bool.eq_false_iff.1 hv))

/-- The wrapper in a cycle with a byte. -/
theorem clockEdge_of_byte {c : Config.Params} {s : State} (h : s.nextCycle.rst = false)
    (hv : s.nextCycle.inValid = true) :
    clockEdge s c = s.takeCycle.withResult (consume s.takeCycle s.nextCycle.inByte c) :=
  (if_neg (Bool.eq_false_iff.1 h)).trans (if_pos hv)

/-- The effect of the row a byte selects is what `consume` answers for that byte. -/
theorem Effect.eq_consume {c : Config.Params} {s t : State} {b : Byte}
    (h : Effect c s (selectedBy s.state b s.guards c) t) : t = s.withResult (consume s b c) := by
  unfold consume
  cases hp : s.state <;> rw [hp] at h
  case awaitStart =>
    by_cases hb : b = 0x02#8
    · subst hb; rw [selectedBy_asStart] at h; cases h; rfl
    · rw [selectedBy_asSkip hb] at h; rw [if_neg hb]; cases h; rfl
  case awaitLength =>
    by_cases hb : c.maxPayload < b.toNat
    · rw [selectedBy_alOver hb] at h; rw [if_pos hb]; cases h; rfl
    · rw [if_neg hb]
      by_cases h0 : b = 0x00#8
      · subst h0; rw [selectedBy_alZero] at h; cases h; rfl
      · rw [selectedBy_alLen (by bv_omega) (Nat.le_of_not_lt hb)] at h; rw [if_neg (show b ≠ 0 from h0)]; cases h; rfl
  case accumulatingPayload =>
    by_cases hc : s.receivedCount.toNat + 1 = s.declaredLength.toNat
    · rw [selectedBy_apLast _ (decide_eq_true hc)] at h; rw [if_pos hc]; cases h; rfl
    · rw [selectedBy_apMore _ (decide_eq_false hc)] at h; rw [if_neg hc]; cases h; rfl
  case awaitChecksum => cases h; rfl
  case awaitEnd =>
    by_cases hb : b = 0x03#8
    · subst hb
      by_cases hc : s.computedChecksum = s.receivedChecksum
      · rw [selectedBy_aeOk (decide_eq_true hc)] at h
        rw [decide_eq_true (And.intro rfl hc)]; cases h; rfl
      · rw [selectedBy_aeBadchk (decide_eq_false hc)] at h
        rw [decide_eq_false fun hok => hc hok.2]; cases h; rfl
    · rw [selectedBy_aeBadend hb] at h
      rw [decide_eq_false fun hok => hb hok.1]; cases h; rfl
  case unused5 | unused6 | unused7 => cases h

/-- A cycle that offers no byte is the wrapper's in every state (40 R101). -/
theorem stepAt_eq_clockEdge_of_no_byte {c : Config.Params} {s : State}
    (h : s.nextCycle.rst = true ∨ s.nextCycle.inValid = false) : stepAt c s = .next (clockEdge s c) := by
  cases hr : s.nextCycle.rst with
  | true => rw [stepAt_of_rst hr, clockEdge_of_rst hr]; rfl
  | false =>
    have hv : s.nextCycle.inValid = false := h.resolve_left (by simp [hr])
    rw [stepAt_of_idle hr hv, clockEdge_of_idle hr hv]

/-- From a ready state the step is the wrapper over `consume`. -/
theorem stepAt_eq_clockEdge {c : Config.Params} {s : State} (hs : Ready s c) : stepAt c s = .next (clockEdge s c) := by
  by_cases h : s.nextCycle.rst = true ∨ s.nextCycle.inValid = false
  · exact stepAt_eq_clockEdge_of_no_byte h
  · rw [not_or, Bool.not_eq_true, Bool.not_eq_false] at h
    obtain ⟨hr, hv⟩ := h
    obtain ⟨t, ht⟩ := stepAt_completes hs
    have he : Effect c s.takeCycle (selectedBy s.state s.nextCycle.inByte s.guards c) t :=
      State.fetch_of_byte hr hv ▸ stepAt_next ht
    rw [ht, clockEdge_of_byte hr hv, he.eq_consume]

/-! ### The next-state table (40 R103) -/

/-- `consume` moves the phase as the table says. -/
theorem consume_state (s : State) (b : Byte) (c : Config.Params) :
    (consume s b c).1.state =
      nextPhase s.state b (decide (s.receivedCount.toNat + 1 = s.declaredLength.toNat)) c := by
  unfold consume nextPhase
  cases hp : s.state with
  | awaitStart => dsimp only; split <;> simp [hp]
  | awaitLength => dsimp only; split <;> [rfl; (split <;> rfl)]
  | accumulatingPayload => dsimp only; split <;> simp [*]
  | awaitChecksum | awaitEnd => rfl
  | unused5 | unused6 | unused7 => exact hp

/-- The step of a byte in a ready state leads to the table's phase. -/
theorem stepAt_nextPhase {c : Config.Params} {s : State} (hs : Ready s c) (h : s.nextCycle.rst = false)
    (hv : s.nextCycle.inValid = true) :
    ∃ t, stepAt c s = .next t ∧ t.state =
      nextPhase s.state s.nextCycle.inByte (decide (s.receivedCount.toNat + 1 = s.declaredLength.toNat)) c :=
  ⟨_, stepAt_eq_clockEdge hs, by rw [clockEdge_of_byte h hv]; exact consume_state s.takeCycle _ c⟩

/-- Each phase but AwaitStart is entered by a CONSUME from the phases the rule names, and no unused one is. -/
theorem Effect.entered_from {c : Config.Params} {i : Instr} {s t : State} (h : Effect c s i t)
    (hi : i.isConsume = true) :
    (t.state = .awaitEnd → s.state = .awaitChecksum) ∧
    (t.state = .awaitChecksum → (s.state = .awaitLength ∧ t.declaredLength = 0) ∨ s.state = .accumulatingPayload) ∧
    (t.state = .accumulatingPayload →
      (s.state = .awaitLength ∧ 1 ≤ t.declaredLength.toNat) ∨ s.state = .accumulatingPayload) ∧
    (t.state = .awaitLength → s.state = .awaitStart) ∧ t.state.named = true := by
  cases h with
  | init | idle => cases hi
  | asStart _ _ hp => exact ⟨nofun, nofun, nofun, fun _ => hp, rfl⟩
  | asSkip _ _ _ hp => simp [Ops.noFrame, hp, Phase.named]
  | alOver | aeOk | aeBadchk | aeBadend => exact ⟨nofun, nofun, nofun, nofun, rfl⟩
  | alZero _ _ hp => exact ⟨nofun, fun _ => .inl ⟨hp, rfl⟩, nofun, nofun, rfl⟩
  | alLen _ _ _ hp hb => exact ⟨nofun, nofun, fun _ => .inl ⟨hp, hb⟩, nofun, rfl⟩
  | apMore _ _ _ hp => exact ⟨nofun, nofun, fun _ => .inr hp, nofun, rfl⟩
  | apLast _ _ _ hp => exact ⟨nofun, fun _ => .inr hp, nofun, nofun, rfl⟩
  | acChk _ _ _ hp => exact ⟨fun _ => hp, nofun, nofun, nofun, rfl⟩

/-! ### Which cycles report a frame (40 R102) -/

/-- The phase, byte and guards that select AE.OK. -/
theorem selectedBy_eq_aeOk {c : Config.Params} {p : Phase} {b : Byte} {g : Guards} :
    selectedBy p b g c = .aeOk ↔ p = .awaitEnd ∧ b = 0x03#8 ∧ g.checksumOk = true := by
  constructor
  · intro h
    have hn : p.named = true := by
      cases p with
      | unused5 | unused6 | unused7 => cases h
      | _ => rfl
    have hp := rowPhase_selectedBy hn b g c
    have hb : StepWord.inByte (encode (selectedBy p b g c)) = b := by
      rw [encode_selectedBy hn, StepWord.inByte_pack]
    have hg := selectedBy_admits p b g c
    rw [h] at hp hb hg
    cases hp
    exact ⟨rfl, hb.symm.trans (StepWord.inByte_pack ..), hg⟩
  · rintro ⟨rfl, rfl, hg⟩
    exact selectedBy_aeOk hg c

/-- AE.OK is the instruction of exactly the cycles with its byte in its phase with equal checksums. -/
theorem State.fetch_eq_aeOk {c : Config.Params} {s : State} :
    s.fetch c = .aeOk ↔ s.nextCycle.rst = false ∧ s.nextCycle.inValid = true ∧ s.state = .awaitEnd ∧
      s.nextCycle.inByte = 0x03#8 ∧ s.computedChecksum = s.receivedChecksum := by
  cases hr : s.nextCycle.rst with
  | true => rw [State.fetch_of_rst hr]; simp
  | false =>
    cases hv : s.nextCycle.inValid with
    | false => rw [State.fetch_of_idle hr hv]; simp
    | true => rw [State.fetch_of_byte hr hv, selectedBy_eq_aeOk]; simp [State.guards, Flags.checksumOk]

/-- `frame_ready` is the conjunction the rule gives. -/
theorem State.frameReady_iff {s : State} :
    s.frameReady = true ↔ s.nextCycle.rst = false ∧ s.nextCycle.inValid = true ∧ s.state = .awaitEnd ∧
      s.nextCycle.inByte = 0x03#8 ∧ s.computedChecksum = s.receivedChecksum := by
  simp [State.frameReady, and_assoc]

/-! ### The way back to AwaitStart -/

/-- How many more bytes can keep build c away from AwaitStart. -/
def State.bytesLeft (s : State) (c : Config.Params := Config.hardware) : Nat :=
  match s.state with
  | .awaitLength => c.maxPayload + 3
  | .accumulatingPayload => s.declaredLength.toNat - s.receivedCount.toNat + 2
  | .awaitChecksum => 2
  | .awaitEnd => 1
  | _ => 0

theorem State.bytesLeft_awaitLength {c : Config.Params} {s : State} (hp : s.state = .awaitLength) :
    s.bytesLeft c = c.maxPayload + 3 := by rw [State.bytesLeft, hp]

theorem State.bytesLeft_accumulatingPayload {c : Config.Params} {s : State} (hp : s.state = .accumulatingPayload) :
    s.bytesLeft c = s.declaredLength.toNat - s.receivedCount.toNat + 2 := by rw [State.bytesLeft, hp]

theorem State.bytesLeft_awaitChecksum {c : Config.Params} {s : State} (hp : s.state = .awaitChecksum) :
    s.bytesLeft c = 2 := by rw [State.bytesLeft, hp]

theorem State.bytesLeft_awaitEnd {c : Config.Params} {s : State} (hp : s.state = .awaitEnd) :
    s.bytesLeft c = 1 := by rw [State.bytesLeft, hp]

/-- In a named phase other than AwaitStart some byte is left. -/
theorem State.awaitStart_of_bytesLeft_zero {c : Config.Params} {s : State} (hn : s.state.named = true)
    (h : s.bytesLeft c = 0) : s.state = .awaitStart := by
  cases hp : s.state with
  | awaitStart => rfl
  | awaitLength => rw [State.bytesLeft_awaitLength hp] at h; cases h
  | accumulatingPayload => rw [State.bytesLeft_accumulatingPayload hp] at h; cases h
  | awaitChecksum => rw [State.bytesLeft_awaitChecksum hp] at h; cases h
  | awaitEnd => rw [State.bytesLeft_awaitEnd hp] at h; cases h
  | unused5 | unused6 | unused7 => rw [hp] at hn; cases hn

/-- Outside AwaitStart every CONSUME uses up one of the bytes left. -/
theorem Effect.bytesLeft_lt {c : Config.Params} {i : Instr} {s t : State} (h : Effect c s i t)
    (hi : i.isConsume = true) (hp : s.state ≠ .awaitStart) : t.bytesLeft c < s.bytesLeft c := by
  cases h with
  | init | idle => cases hi
  | asStart _ _ hs | asSkip _ _ _ hs => exact absurd hs hp
  | alOver _ _ _ hs => rw [State.bytesLeft_awaitLength hs]; exact Nat.succ_pos _
  | alZero _ _ hs => rw [State.bytesLeft_awaitLength hs, State.bytesLeft_awaitChecksum rfl]; omega
  | alLen l _ _ hs _ hle =>
    rw [State.bytesLeft_awaitLength hs, State.bytesLeft_accumulatingPayload rfl]
    have hsub : l.toNat - s.receivedCount.toNat ≤ c.maxPayload := (Nat.sub_le ..).trans hle
    exact Nat.lt_succ_of_le (Nat.add_le_add_right hsub 2)
  | apMore _ _ hl hs =>
    obtain ⟨-, -, -, h4, -⟩ := hl
    obtain ⟨-, hlt⟩ := h4 hs
    rw [State.bytesLeft_accumulatingPayload hs, State.bytesLeft_accumulatingPayload rfl]
    dsimp only
    bv_omega
  | apLast _ _ _ hs hc =>
    rw [State.bytesLeft_accumulatingPayload hs, State.bytesLeft_awaitChecksum rfl]; omega
  | acChk _ _ _ hs => rw [State.bytesLeft_awaitChecksum hs, State.bytesLeft_awaitEnd rfl]; exact Nat.lt_succ_self 1
  | aeOk _ _ hs | aeBadchk _ _ hs | aeBadend _ _ _ hs => rw [State.bytesLeft_awaitEnd hs]; exact Nat.one_pos

/-- Of as many bytes as are left some prefix leads back to AwaitStart. -/
theorem feed_reaches_awaitStart {s : State} {bs : List Byte} (hs : Ready s) (hb : s.bytesLeft ≤ bs.length) :
    ∃ k ≤ bs.length, ∃ t, feed (bs.take k) s = .next t ∧ t.state = .awaitStart := by
  obtain ⟨-, -, -, -, -, -, -, hn⟩ := id hs
  induction bs generalizing s with
  | nil => exact ⟨0, Nat.le_refl 0, s, rfl, State.awaitStart_of_bytesLeft_zero hn (Nat.le_zero.1 hb)⟩
  | cons b bs ih =>
    by_cases hp : s.state = .awaitStart
    · exact ⟨0, Nat.zero_le _, s, rfl, hp⟩
    · obtain ⟨u, he, hf⟩ := feed_cons hs b []
      have hlt := he.bytesLeft_lt (isConsume_of_rowPhase (rowPhase_selectedBy hn ..)) hp
      have hu : Ready u := he.ready hs
      obtain ⟨-, -, -, -, -, -, -, hnu⟩ := id hu
      obtain ⟨k, hk, t, ht, hst⟩ := ih hu (by rw [List.length_cons] at hb; omega) hnu
      exact ⟨k + 1, Nat.succ_le_succ hk, t, (feed_append hs hf (bs.take k)).trans ht, hst⟩

/-- A frame is its payload and four bytes around it (30_encoding R76). -/
theorem frame_length (p : List Byte) : (frame p).length = p.length + 4 := by simp [frame]

/-! ### XOR (40 R104) -/

/-- The XOR of a sequence does not depend on its order. -/
theorem xorBytes_perm {p q : List Byte} (h : p.Perm q) : xorBytes p = xorBytes q := by
  induction h with
  | nil => rfl
  | cons b _ ih => rw [xorBytes_cons, xorBytes_cons, ih]
  | swap a b l => simp only [xorBytes_cons]; ac_rfl
  | trans _ _ ih ih' => exact ih.trans ih'

/-- A byte can be taken out of the XOR of a sequence it stands in. -/
theorem xorBytes_middle (q r : List Byte) (x : Byte) : xorBytes (q ++ [x] ++ r) = x ^^^ xorBytes (q ++ r) := by
  simp only [xorBytes_append, xorBytes_cons, xorBytes_nil]
  ac_rfl

/-- Two bytes can be taken out of the XOR of a sequence they stand in. -/
theorem xorBytes_middle_two (q r u : List Byte) (x y : Byte) :
    xorBytes (q ++ [x] ++ r ++ [y] ++ u) = (x ^^^ y) ^^^ xorBytes (q ++ r ++ u) := by
  rw [xorBytes_middle, List.append_assoc _ r, xorBytes_middle, ← BitVec.xor_assoc, BitVec.xor_comm y,
    List.append_assoc q]

/-- The same difference in two bytes cancels. -/
theorem xor_same_difference (x y d : Byte) : (x ^^^ d) ^^^ (y ^^^ d) = x ^^^ y := by
  rw [BitVec.xor_comm y, BitVec.xor_assoc, ← BitVec.xor_assoc d, BitVec.xor_self, BitVec.zero_xor]

end Sys2Proof.Machine
end

section
/-! The statements about the operation as a whole: the wrapper, the next-state table, `frame_ready`, the bounds that follow from
the table, and the XOR laws. -/

namespace Sys2Proof.Proofs

open Sys2Proof.Machine Sys2Proof.Safety

/-- Settles O6: it is what a step is, at the instruction fetched. -/
theorem stepRunsFetchedInstruction : Obligations.StepRunsFetchedInstruction := by
  rintro s _ rfl
  rfl

/-- Settles O34: the clauses of this hardware are those of every build, at its own. -/
theorem stepIsTheClockedWrapper : Obligations.StepIsTheClockedWrapper :=
  ⟨fun _ _ => stepAt_eq_clockEdge, fun _ _ => stepAt_eq_clockEdge_of_no_byte, step_eq_stepAt, exec_eq_execAt,
    fun s hs => (step_eq_stepAt s).trans (stepAt_eq_clockEdge hs),
    fun s h => (step_eq_stepAt s).trans (stepAt_eq_clockEdge_of_no_byte h)⟩

/-- Settles O35: the step is the wrapper's, and `consume` moves the phase by the table. -/
theorem nextPhaseFollowsTheTable : Obligations.NextPhaseFollowsTheTable := by
  refine ⟨fun _ _ => stepAt_nextPhase, fun s hs h hv => ?_⟩
  rw [step_eq_stepAt]
  exact stepAt_nextPhase hs h hv

/-- Settles O36, by the inversion of exec. -/
theorem phasesAreEnteredInOrder : Obligations.PhasesAreEnteredInOrder :=
  fun _ _ _ hi h => (exec_next h).entered_from hi

/-- Settles O37: both sides are the same conjunction. -/
theorem frameReadyIsExactlyAeOk : Obligations.FrameReadyIsExactlyAeOk :=
  fun _ => ⟨State.frameReady_iff, State.frameReady_iff.trans State.fetch_eq_aeOk.symm⟩

/-- Settles O54: in AwaitLength the bytes left are MAX_PAYLOAD + 3, and each byte uses up one. -/
theorem backInAwaitStartInBoundedSteps : Obligations.BackInAwaitStartInBoundedSteps := by
  intro s bs hs hp hl
  rw [← hl]
  exact feed_reaches_awaitStart hs (by rw [State.bytesLeft_awaitLength hp, hl])

/-- Settles O55: a byte that reports a frame ends a whole frame (30_encoding R84), which has at least four bytes. -/
theorem framesAreFourBytesApart : Obligations.FramesAreFourBytesApart := by
  intro s t bs hs hp hl h
  induction bs using List.reverseRecOn generalizing t with
  | nil => cases h; rfl
  | append_singleton as b ih =>
    rw [List.length_append, List.length_singleton] at hl
    obtain ⟨u, hu, hru⟩ := feed_ready as hs
    obtain ⟨t', he, hf⟩ := feed_snoc hs hu hru b
    cases hf.symm.trans h
    obtain ⟨-, -, -, -, -, -, -, hn⟩ := hru
    have hob := he.observed_eq
    rw [if_pos (isConsume_of_rowPhase (rowPhase_selectedBy hn ..))] at hob
    by_cases hi : selectedBy u.state b u.guards = .aeOk
    · rw [if_pos hi] at hob
      obtain ⟨g, hg, -⟩ := (acceptedLanguage s _ u.payloadView hs hp (by simp)).1 ⟨t, h, by rw [hob]; rfl⟩
      have hlen := congrArg List.length hg
      rw [List.length_append, List.length_singleton, List.length_append, frame_length] at hlen
      omega
    · rw [hob, if_neg hi, ih u (by omega) hu, List.length_append, List.length_singleton, List.replicate_succ]
      rfl

/-- Settles O60: XOR is associative and commutative and its own inverse, so a byte can be moved to the front and cancelled. -/
theorem checksumDetectsOneChangeOnly : Obligations.ChecksumDetectsOneChangeOnly := by
  refine ⟨fun a b c => ⟨BitVec.xor_zero, BitVec.xor_self, BitVec.xor_comm a b, BitVec.xor_assoc a b c⟩,
    fun _ _ => xorBytes_perm, fun q r x y hne h => ?_, fun q r u x y d => ?_, rfl⟩
  · rw [xorBytes_middle, xorBytes_middle] at h
    exact hne (BitVec.xor_left_inj _ |>.1 h)
  · rw [xorBytes_middle_two, xorBytes_middle_two, xor_same_difference]

end Sys2Proof.Proofs
end

section
/-! SUPPORT. An instruction completes where a case of `Effect` applies, the converse of the inversion of exec; and the instruction
and `frame_ready` of a cycle that offers a byte. -/

namespace Sys2Proof.Machine

/-- A case of `Effect` that applies is what the instruction answers: the case's premises select the row, so the instruction
completes, and it has one effect only. -/
theorem Effect.execAt_eq {c : Config.Params} {i : Instr} {s t : State} (h : Effect c s i t) : execAt c i s = .next t := by
  have hrow (hi : s.initDone = true) (hl : s.Legal c) {p : Phase} (hp : s.state = p) (hr : rowPhase i = some p)
      (hw : i.wellFormed c = true) (hg : i.admits s.guards = true) : ∃ u, execAt c i s = .next u :=
    (execAt_runsRow (hp ▸ hr) hw hg).completes ⟨hi, hl⟩
  have hcompletes : ∃ u, execAt c i s = .next u := by
    cases h with
    | init | idle => exact ⟨_, rfl⟩
    | asStart hi hl hp | alZero hi hl hp | acChk _ hi hl hp => exact hrow hi hl hp rfl rfl rfl
    | asSkip _ hi hl hp hb | aeBadend _ hi hl hp hb => exact hrow hi hl hp rfl (bne_iff_ne.2 hb) rfl
    | alOver _ hi hl hp hb => exact hrow hi hl hp rfl (decide_eq_true hb) rfl
    | alLen _ hi hl hp hb hb' => exact hrow hi hl hp rfl (by simp [Instr.wellFormed, hb, hb']) rfl
    | apLast _ hi hl hp hc | aeOk hi hl hp hc => exact hrow hi hl hp rfl rfl (decide_eq_true hc)
    | apMore _ hi hl hp hc | aeBadchk hi hl hp hc =>
      exact hrow hi hl hp rfl rfl (Bool.not_eq_true' _ ▸ decide_eq_false hc)
  obtain ⟨u, hu⟩ := hcompletes
  rw [hu, (execAt_next hu).unique h]

/-- The same of this hardware's meanings. -/
theorem Effect.exec_eq {i : Instr} {s t : State} (h : Effect Config.hardware s i t) : exec i s = .next t :=
  (exec_eq_execAt i s).trans h.execAt_eq

/-- A cycle that offers b fetches the instruction the phase selects by b. -/
theorem State.fetch_of_ofByte {c : Config.Params} {s : State} {b : Byte} (h : s.nextCycle = Cycle.ofByte b) :
    s.fetch c = selectedBy s.state b s.guards c := by
  rw [State.fetch_of_byte (by rw [h]; rfl) (by rw [h]; rfl), h]
  rfl

/-- `frame_ready` is 0 in the cycle of every instruction but AE.OK (40 R102). -/
theorem State.frameReady_eq_false {s : State} (h : s.fetch ≠ .aeOk) : s.frameReady = false :=
  Bool.eq_false_iff.2 fun hr => h (State.fetch_eq_aeOk.2 (State.frameReady_iff.1 hr))

/-- A cycle that offers a byte which selects an instruction other than AE.OK fetches that instruction, with `frame_ready` 0. -/
theorem State.fetch_silent {s : State} {b : Byte} {i : Instr} (h : s.nextCycle = Cycle.ofByte b)
    (hsel : selectedBy s.state b s.guards = i) (hi : i ≠ .aeOk) : s.fetch = i ∧ s.frameReady = false := by
  have hf : s.fetch = i := (State.fetch_of_ofByte h).trans hsel
  exact ⟨hf, State.frameReady_eq_false (hf ▸ hi)⟩

end Sys2Proof.Machine
end

section
/-! The statements about the transitions of AwaitStart (41_await_start). -/

namespace Sys2Proof.Proofs

open Sys2Proof.Machine Sys2Proof.Safety

/-- Settles O11: AS.START's row has no premise but the phase, and its byte selects it there. -/
theorem asStartEffect : Obligations.AsStartEffect := by
  intro s ⟨hi, hl⟩ hp
  refine ⟨(Effect.asStart hi hl hp).exec_eq, fun h => State.fetch_silent h ?_ nofun⟩
  rw [hp, selectedBy_asStart]

/-- Settles O12: a byte other than the start marker is what AS.SKIP's row asks for, and what selects it. -/
theorem asSkipEffect : Obligations.AsSkipEffect := by
  intro s b ⟨hi, hl⟩ hp hb
  refine ⟨(Effect.asSkip b hi hl hp hb).exec_eq, fun h => State.fetch_silent h ?_ nofun⟩
  rw [hp, selectedBy_asSkip hb]

end Sys2Proof.Proofs
end

section
/-! The statements about the transitions of AwaitLength (42_await_length). -/

namespace Sys2Proof.Proofs

open Sys2Proof.Machine Sys2Proof.Safety

/-- Settles O13: a byte above MAX_PAYLOAD is what AL.OVER's row asks for, and what selects it; a rejection writes the phase
only. -/
theorem alOverEffect : Obligations.AlOverEffect := by
  intro s l ⟨hi, hl⟩ hp hb
  refine ⟨(Effect.alOver l hi hl hp hb).exec_eq, fun h => State.fetch_silent h ?_ nofun⟩
  rw [hp, selectedBy_alOver hb]

/-- Settles O14: AL.ZERO's row has no premise but the phase, and the byte 0, never above MAX_PAYLOAD, selects it there. -/
theorem alZeroEffect : Obligations.AlZeroEffect := by
  intro s ⟨hi, hl⟩ hp
  refine ⟨(Effect.alZero hi hl hp).exec_eq, fun h => State.fetch_silent h ?_ nofun⟩
  rw [hp, selectedBy_alZero]

/-- Settles O15: a byte from 1 to MAX_PAYLOAD is what AL.LEN's row asks for; being neither oversized nor 0, it
selects that row. -/
theorem alLenEffect : Obligations.AlLenEffect := by
  intro s l ⟨hi, hl⟩ hp hb hb'
  refine ⟨(Effect.alLen l hi hl hp hb hb').exec_eq, fun h => State.fetch_silent h ?_ nofun⟩
  rw [hp, selectedBy_alLen hb hb']

end Sys2Proof.Proofs
end

section
/-! SUPPORT. The append of AccumulatingPayload as both its rows share it (43 R130). -/

namespace Sys2Proof.Machine

/-- Both rows of the append stand in AccumulatingPayload and take the byte into the running XOR; which of them it is, and so the
next phase, goes by the new count (43 R130). -/
theorem Effect.append_phase {c : Config.Params} {i : Instr} {s t : State} {b : Byte} (h : Effect c s i t)
    (hi : i = .apMore b ∨ i = .apLast b) :
    s.state = .accumulatingPayload ∧ t.computedChecksum = s.computedChecksum ^^^ b ∧
      t.state = if s.receivedCount.toNat + 1 = s.declaredLength.toNat then .awaitChecksum else .accumulatingPayload := by
  rcases hi with rfl | rfl
  · cases h with | apMore _ _ _ hp hc => exact ⟨hp, rfl, (if_neg hc).symm⟩
  · cases h with | apLast _ _ _ hp hc => exact ⟨hp, rfl, (if_pos hc).symm⟩

end Sys2Proof.Machine
end

section
/-! The statements about the transitions of AccumulatingPayload (43_accumulating_payload). -/

namespace Sys2Proof.Proofs

open Sys2Proof.Machine Sys2Proof.Safety

/-- Settles O22: the entry bounds are I1 and I4; the view, one byte longer, has the new count as its length, and the phase is by
that count; I2 holds again, since an append keeps the invariants. -/
theorem appendStoresAtOldCount : Obligations.AppendStoresAtOldCount := by
  intro s t b i hi hs h
  have he := exec_next h
  obtain ⟨-, hread, hd, hr, -⟩ := storingInstructionsFrame i b s t hi h
  obtain ⟨hp, hx, hphase⟩ := he.append_phase hi
  obtain ⟨hview, -⟩ := he.append_view hi
  obtain ⟨-, -, hI2, -⟩ := he.ready hs
  obtain ⟨-, ⟨-, hmax⟩, -, -, h4, -⟩ := hs
  obtain ⟨hpos, hlt⟩ := h4 hp
  have hn : t.receivedCount.toNat = s.receivedCount.toNat + 1 := by
    rw [← State.payloadView_length, hview, List.length_append, State.payloadView_length, List.length_singleton]
  have hlast : t.receivedCount = t.declaredLength ↔ s.receivedCount.toNat + 1 = s.declaredLength.toNat := by
    rw [← BitVec.toNat_inj, hn, hd]
  refine ⟨hpos, hmax, hlt, rfl, Nat.le_trans hlt hmax, hn, hread, hview, hx, hI2, hd, hr, ?_⟩
  simp only [hlast, hphase]

/-- Settles O16: a new count other than declared_length is what AP.MORE's row asks for, and what selects it by any byte. -/
theorem apMoreEffect : Obligations.ApMoreEffect := by
  intro s b ⟨hi, hl⟩ hp hc
  refine ⟨(Effect.apMore b hi hl hp hc).exec_eq, fun h => State.fetch_silent h ?_ nofun⟩
  rw [hp, selectedBy_apMore b (decide_eq_false hc)]

/-- Settles O17: a new count that is declared_length is what AP.LAST's row asks for, and what selects it by any byte. -/
theorem apLastEffect : Obligations.ApLastEffect := by
  intro s b ⟨hi, hl⟩ hp hc
  refine ⟨(Effect.apLast b hi hl hp hc).exec_eq, fun h => State.fetch_silent h ?_ nofun⟩
  rw [hp, selectedBy_apLast b (decide_eq_true hc)]

end Sys2Proof.Proofs
end

section
/-! The statement about the transition of AwaitChecksum (44_await_checksum). -/

namespace Sys2Proof.Proofs

open Sys2Proof.Machine Sys2Proof.Safety

/-- Every byte in AwaitChecksum selects AC.CHK (30_encoding R80): the guards on the registers are not read there. -/
theorem selectedBy_acChk (b : Byte) (g : Guards) (c : Config.Params) : selectedBy .awaitChecksum b g c = .acChk b := rfl

/-- Settles O18: AC.CHK's row has no premise but the phase, and every byte selects it there, whatever the checksums. -/
theorem acChkEffect : Obligations.AcChkEffect := by
  intro s b ⟨hi, hl⟩ hp
  refine ⟨(Effect.acChk b hi hl hp).exec_eq, fun h => State.fetch_silent h ?_ nofun⟩
  rw [hp, selectedBy_acChk]

end Sys2Proof.Proofs
end

section
/-! SUPPORT. The verdict of AwaitEnd (45 R150): what `consume` answers there, and the bytes that end in a rejection. -/

namespace Sys2Proof.Machine

open Sys2Proof.Safety

/-- In AwaitEnd `consume` writes the phase only and emits if both tests pass (45 R150). -/
theorem consume_awaitEnd {s : State} (hp : s.state = .awaitEnd) (b : Byte) (c : Config.Params) :
    consume s b c = (s.goto .awaitStart, decide (b = 0x03#8 ∧ s.computedChecksum = s.receivedChecksum)) := by
  unfold consume
  rw [hp]
  rfl

/-- Every row of AwaitEnd but AE.OK is a rejection (45 R152, R153). -/
theorem Effect.eq_reject {c : Config.Params} {i : Instr} {s t : State} (h : Effect c s i t)
    (hi : rowPhase i = some .awaitEnd) (ho : i ≠ .aeOk) : t = Ops.reject s := by
  cases h with
  | aeBadchk | aeBadend => rfl
  | aeOk => exact absurd rfl ho
  | _ => cases hi

/-- In AwaitEnd a byte that fails one of the two tests is rejected (45 R150, 60 R176). -/
theorem Fed.rejected {s t : State} {n : Nat} {q : List Byte} {e : Byte} (h : Fed s t n .awaitEnd q)
    (hbad : e = 0x03#8 → t.computedChecksum ≠ t.receivedChecksum) :
    ∃ u, feed [e] t = .next u ∧ Fed s u (n + 1) .awaitStart q := by
  have hrow : rowPhase (selectedBy .awaitEnd e t.guards) = some .awaitEnd := rowPhase_selectedBy rfl ..
  have ho : selectedBy .awaitEnd e t.guards ≠ .aeOk := fun hok => by
    obtain ⟨-, he, hg⟩ := selectedBy_eq_aeOk.1 hok
    exact hbad he (of_decide_eq_true hg)
  obtain ⟨u, he, hf, hu⟩ := h.next rfl (isConsume_of_rowPhase hrow) ho []
  cases he.eq_reject hrow ho
  exact ⟨_, hf, h.view ▸ hu⟩

/-- In AwaitStart a frame of a payload that fits, with its last two bytes replaced so that they are not both the payload's XOR and
the end marker, reports no frame and leads back to AwaitStart (45 R152, R153). -/
theorem feed_rejected {s : State} {p : List Byte} {k e : Byte} (hs : Ready s) (hp : s.state = .awaitStart)
    (hl : p.length ≤ Config.hardware.maxPayload) (hbad : e = 0x03#8 → xorBytes p ≠ k) :
    ∃ t, feed ([0x02#8, BitVec.ofNat 8 p.length] ++ p ++ [k, e]) s = .next t ∧ t.state = .awaitStart ∧
      t.observed = List.replicate (p.length + 4) .noFrame ++ s.observed := by
  obtain ⟨u, hfu, hu⟩ := feed_body hs hp hl [k, e]
  obtain ⟨v, hfv, hv, hk⟩ := hu.checksum k [e]
  have hx : v.computedChecksum = xorBytes p := by
    obtain ⟨⟨-, -, h2, -⟩, -, rfl, -, -⟩ := hv
    exact h2
  obtain ⟨t, hft, ht⟩ := hv.rejected fun he => by rw [hx, hk]; exact hbad he
  exact ⟨t, (hfu.trans hfv).trans hft, ht.state, ht.observed⟩

end Sys2Proof.Machine
end

section
/-! The statements about AwaitEnd (45_await_end): its verdict, its three transitions, and the frames it rejects. -/

namespace Sys2Proof.Proofs

open Sys2Proof.Machine Sys2Proof.Safety

/-- Settles O23: the step is `consume`'s, whose verdict is the conjunction of both tests; the entry facts are I6 and I2. -/
theorem awaitEndVerdict : Obligations.AwaitEndVerdict := by
  intro s b hs hp hb
  obtain ⟨t, he, ht⟩ := step_of_byte hs hb
  have hc : t = s.takeCycle.withResult (consume s.takeCycle b) := he.eq_consume
  obtain ⟨-, -, h2, -, -, -, h6, -⟩ := hs
  refine ⟨?_, fun hne => ?_, h6 hp, h2⟩
  · rw [ht, hc, consume_awaitEnd (s := s.takeCycle) hp]
    simp only [State.withResult, decide_eq_true_eq]
    rfl
  · rw [State.fetch_of_ofByte hb, hp, selectedBy_aeBadend hne]

/-- Settles O51: the changed byte makes the XOR of the payload another than the checksum byte received. -/
theorem corruptedFrameIsRejected : Obligations.CorruptedFrameIsRejected := by
  intro s p d hs hp hl hd
  have hne (x : Byte) : x ≠ x ^^^ d := fun h => hd (xor_left_eq_self_iff.1 h.symm)
  constructor
  · rintro q r x rfl
    have hlen : (q ++ [x ^^^ d] ++ r).length = (q ++ [x] ++ r).length := by simp
    have hx : xorBytes (q ++ [x ^^^ d] ++ r) ≠ xorBytes (q ++ [x] ++ r) := by
      obtain ⟨-, -, hone, -⟩ := checksumDetectsOneChangeOnly
      exact (hone q r x (x ^^^ d) (hne x)).symm
    rw [← hlen] at hl ⊢
    exact feed_rejected hs hp hl fun _ => hx
  · exact feed_rejected hs hp hl fun _ => hne _

/-- Settles O52: the last byte fails the test on the end marker, whatever it is otherwise. -/
theorem badEndMarkerIsRejected : Obligations.BadEndMarkerIsRejected :=
  fun _ _ _ hs hp hl he => feed_rejected hs hp hl fun h => absurd h he

/-- Settles O19: equal checksums are what AE.OK's row asks for, and with the end marker they select it; `frame_ready` is 1 in
exactly its cycles. -/
theorem aeOkEffect : Obligations.AeOkEffect := by
  intro s ⟨hi, hl⟩ hp hc
  refine ⟨(Effect.aeOk hi hl hp hc).exec_eq, State.payloadView_length s, fun h => ?_⟩
  obtain ⟨-, hready⟩ := frameReadyIsExactlyAeOk s
  have hf : s.fetch = .aeOk := by rw [State.fetch_of_ofByte h, hp, selectedBy_aeOk (decide_eq_true hc)]
  exact ⟨hf, hready.2 hf⟩

/-- Settles O20: unequal checksums are what AE.BADCHK's row asks for, and with the end marker they select it. -/
theorem aeBadchkEffect : Obligations.AeBadchkEffect := by
  intro s ⟨hi, hl⟩ hp hc
  refine ⟨(Effect.aeBadchk hi hl hp hc).exec_eq, fun h => State.fetch_silent h ?_ nofun⟩
  rw [hp, selectedBy_aeBadchk (decide_eq_false hc)]

/-- Settles O21: a byte other than the end marker is what AE.BADEND's row asks for, and what selects it, with no premise on the
checksums. -/
theorem aeBadendEffect : Obligations.AeBadendEffect := by
  intro s b ⟨hi, hl⟩ hp hb
  refine ⟨(Effect.aeBadend b hi hl hp hb).exec_eq, fun h => State.fetch_silent h ?_ nofun⟩
  rw [hp, selectedBy_aeBadend hb]

end Sys2Proof.Proofs
end

section
/-! SUPPORT. The step of this hardware in a cycle with rst and in one without rst and without a byte, from any state
(46_initialize_idle); and the run over given cycles, which its idle ones do not change. -/

namespace Sys2Proof.Machine

open Sys2Proof.Safety

/-- A cycle with rst performs INIT, from any state (46 R160). -/
theorem step_of_rst {s : State} (h : s.nextCycle.rst = true) : step s = .next (Ops.initialize s.takeCycle) :=
  (step_eq_stepAt s).trans (stepAt_of_rst h)

/-- A cycle without rst and without a byte only uses up its inputs, in any state (46 R161). -/
theorem step_of_idle {s : State} (h : s.nextCycle.rst = false) (hv : s.nextCycle.inValid = false) :
    step s = .next s.takeCycle :=
  (step_eq_stepAt s).trans (stepAt_of_idle h hv)

/-- INIT makes any state ready (46 R160, 60 R182). -/
theorem Ops.initialize_ready (s : State) (c : Config.Params) : Ready (Ops.initialize s) c :=
  ⟨rfl, State.legal_of_cleared (.inl rfl) rfl rfl rfl⟩

/-! ### Runs over given cycles -/

/-- The outcome of one step for each of the given cycles, with no others to come. -/
def runOver (cs : List Cycle) (s : State) : Result := Host.Core.run Sys2Proof.core cs.length (s.setInputs cs)

/-- From a ready state the first cycle's step leads to the ready state from which the other cycles are run, the same one whatever
they are. -/
theorem runOver_cons {s : State} (hs : Ready s) (cy : Cycle) :
    ∃ t, Ready t ∧ ∀ cs, runOver (cy :: cs) s = runOver cs t := by
  obtain ⟨t, ht⟩ := stepAt_completes (s := s.setInputs [cy]) hs
  have he : Effect Config.hardware (s.setInputs []) (s.setInputs [cy]).fetch t := stepAt_next ht
  exact ⟨t, he.ready hs, fun cs => run_succ_of_next (he.setInputs cs).exec_eq⟩

/-- A first cycle without rst and without a byte changes nothing of a run (46 R161). -/
theorem runOver_cons_of_idle {cy : Cycle} (h : cy.rst = false) (hv : cy.inValid = false) (s : State) (cs : List Cycle) :
    runOver (cy :: cs) s = runOver cs s :=
  run_succ_of_next (step_of_idle (s := s.setInputs (cy :: cs)) h hv)

/-- A run from a ready state ends as the run over its cycles with rst or a byte does, by induction on the cycles (46 R161 (a)). -/
theorem runOver_filter {s : State} (hs : Ready s) (cs : List Cycle) :
    runOver (cs.filter fun c => c.rst || c.inValid) s = runOver cs s := by
  induction cs generalizing s with
  | nil => rfl
  | cons cy cs ih =>
    rw [List.filter_cons]
    split
    · obtain ⟨u, hu, hrun⟩ := runOver_cons hs cy
      rw [hrun, hrun, ih hu]
    · next hk =>
      obtain ⟨hr, hv⟩ := Bool.or_eq_false_iff.1 (Bool.eq_false_iff.2 hk)
      rw [runOver_cons_of_idle hr hv, ih hs]

end Sys2Proof.Machine
end

section
/-! The statements about INIT, IDLE and RSVD.STATE (46_initialize_idle). -/

namespace Sys2Proof.Proofs

open Sys2Proof.Machine Sys2Proof.Safety

/-- Settles O45: INIT's state is ready whatever it was before, and the cells and the record are those it was given. -/
theorem initRecoversFromAnyState : Obligations.InitRecoversFromAnyState := by
  intro s h
  have hr : Ready (Ops.initialize s.takeCycle) := Ops.initialize_ready ..
  exact ⟨_, step_of_rst h, hr, fun hm => ⟨hr, hm⟩, rfl, rfl⟩

/-- Settles O59: the run completes, and taking its idle cycles out leaves its outcome. -/
theorem idleCyclesHaveNoInfluence : Obligations.IdleCyclesHaveNoInfluence := by
  intro s cs hs
  obtain ⟨t, ht, -⟩ := run_ready cs.length (s := s.setInputs cs) hs
  exact ⟨t, ht, (runOver_filter hs cs).trans ht⟩

/-- Settles O8: INIT's six writes are constants, so the second writes what is there already; rst selects it before the phase and
the byte are looked at. -/
theorem initEffect : Obligations.InitEffect := by
  refine ⟨fun s => rfl, fun s h => ?_, fun s t h => ?_⟩
  · have hf : s.fetch = .init := State.fetch_of_rst h
    exact ⟨hf, State.frameReady_eq_false (hf ▸ nofun)⟩
  · cases exec_next h
    rfl

/-- Settles O9: without rst and without a byte IDLE is what is fetched, and its step is the taking of the cycle. -/
theorem idleEffect : Obligations.IdleEffect := by
  refine ⟨fun s => rfl, fun s h hv => ?_⟩
  have hf : s.fetch = .idle := State.fetch_of_idle h hv
  exact ⟨hf, State.frameReady_eq_false (hf ▸ nofun), step_of_idle h hv⟩

/-- Settles O10: the cycle of a stopped host is an idle one, and there is no input for it to use up. -/
theorem stoppedHostChangesNothing : Obligations.StoppedHostChangesNothing := by
  intro s h
  have hc : s.nextCycle = Cycle.idle := State.nextCycle_nil s h
  have ht : s.takeCycle = s := by rw [State.takeCycle, h, List.tail_nil, ← h]; rfl
  rw [step_of_idle (by rw [hc]; rfl) (by rw [hc]; rfl), ht]

/-- Settles O24: a byte selects an RSVD.STATE row in every unused phase; IDLE and INIT do not ask for the phase. -/
theorem reservedStateFaults : Obligations.ReservedStateFaults :=
  ⟨fun _ => ⟨rfl, rfl⟩, fun s hn h hv => (step_eq_stepAt s).trans (stepAt_of_unnamed h hv hn), fun _ _ => step_of_idle,
    fun _ _ h => ⟨_, step_of_rst h, rfl⟩⟩

end Sys2Proof.Proofs
end

section
/-! The statements about the rejections and the ways back to AwaitStart (60_exceptions). -/

namespace Sys2Proof.Proofs

open Sys2Proof.Machine

/-- Settles O32: each of the three completes as the one shared rejection, which moves the phase and records NoFrame. -/
theorem rejectionWritesOnlyThePhase : Obligations.RejectionWritesOnlyThePhase := by
  intro i s t hi h
  rcases hi with rfl | ⟨b, rfl | rfl⟩
  · cases exec_next h with | aeBadchk => rfl
  · cases exec_next h with | alOver => rfl
  · cases exec_next h with | aeBadend => rfl

/-- Settles O33, by the inversion of exec: IDLE and AS.SKIP keep the phase, the rows within a frame enter another one, and each
row that goes back carries what selects it. -/
theorem onlyTheseReturnToAwaitStart : Obligations.OnlyTheseReturnToAwaitStart := by
  intro i s t h hs ht
  cases exec_next h with
  | init => exact .inl rfl
  | alOver l _ _ hp hb => exact .inr (.inl ⟨l, rfl, hp, hb⟩)
  | aeOk _ _ hp hc => exact .inr (.inr (.inl ⟨rfl, hp, hc⟩))
  | aeBadchk _ _ hp hc => exact .inr (.inr (.inr (.inl ⟨rfl, hp, hc⟩)))
  | aeBadend b _ _ hp hb => exact .inr (.inr (.inr (.inr ⟨b, rfl, hp, hb⟩)))
  | idle | asSkip => exact absurd ht hs
  | asStart | alZero | alLen | apMore | apLast | acChk => cases ht

end Sys2Proof.Proofs
end

section
/-! SUPPORT. The step lemma of the ready states, and the refusal of a row before INIT. -/

namespace Sys2Proof.Machine

open Sys2Proof.Safety

/-- A step from a ready state completes in a ready state (70 R208, 10_state R30). -/
theorem stepAt_completes_ready {c : Config.Params} {s : State} (hs : Ready s c) : ∃ t, stepAt c s = .next t ∧ Ready t c := by
  obtain ⟨t, ht⟩ := stepAt_completes hs
  exact ⟨t, ht, stepAt_ready hs ht⟩

/-- Before INIT a selected row is refused, whatever the registers hold (70 R201, 93 U3). -/
theorem RunsRow.refused_of_not_initDone {c : Config.Params} {s : State} {r : Result} (h : RunsRow c s r)
    (hi : s.initDone = false) : r = .refused .consumeBeforeInit := by
  obtain ⟨e, rfl, -⟩ := h
  exact if_pos hi

end Sys2Proof.Machine
end

section
/-! The statements about every step, the record of the results and the bytes before INIT (70_reset_and_hazards). -/

namespace Sys2Proof.Proofs

open Sys2Proof.Machine

/-- Settles O42: the fetched row completes from a ready state, and every completed instruction keeps the invariants; this
hardware's step is that of its build. -/
theorem everyStepCompletesAndKeepsInvariants : Obligations.EveryStepCompletesAndKeepsInvariants :=
  ⟨fun _ _ => stepAt_completes_ready, fun s hs => step_eq_stepAt s ▸ stepAt_completes_ready hs⟩

/-- Settles O38: the result the fetched instruction records depends on whether it is AE.OK, which is what `frame_ready` says. -/
theorem observationRecordsEachConsume : Obligations.ObservationRecordsEachConsume := by
  intro s hs
  obtain ⟨t, ht⟩ := stepAt_completes hs
  obtain ⟨-, hf⟩ := frameReadyIsExactlyAeOk s
  have hob := (stepAt_next ht).observed_eq
  simp only [← hf] at hob
  exact ⟨t, (step_eq_stepAt s).trans ht, hob⟩

/-- Settles O47: in a named phase the frame of the selected row refuses, in an unused one RSVD.STATE faults. -/
theorem byteBeforeInitHasNoMeaning : Obligations.ByteBeforeInitHasNoMeaning := by
  intro s hi h hv
  rw [step_eq_stepAt]
  cases hn : s.state.named with
  | true =>
    have hr : stepAt Config.hardware s = .refused .consumeBeforeInit := (stepAt_of_byte h hv hn).refused_of_not_initDone hi
    exact ⟨fun t => hr ▸ nofun, fun _ => hr⟩
  | false =>
    have hf : stepAt Config.hardware s = .fault .reservedState := stepAt_of_unnamed h hv hn
    exact ⟨fun t => hf ▸ nofun, nofun⟩

end Sys2Proof.Proofs
end
